-- ==== Sys2Proof/Word.lean ====
section
/-! DEFINITION. The word types of the part (00_scope.md 0.6): bytes, 16-bit, 32-bit and 64-bit words.
Everything computed on them that a test could show wrong stands in Machine/Arith.lean. -/

namespace Sys2Proof

/-- A byte of a record or of host memory. -/
abbrev Byte := BitVec 8

/-- A 16-bit field. -/
abbrev Half := BitVec 16

/-- A word is 32 bits (00_scope.md 0.6); posted counts, clocks and sequence numbers wrap at 2^32. -/
abbrev Word := BitVec 32

/-- A 64-bit byte address in host memory (11_record_formats.md). -/
abbrev Addr := BitVec 64

end Sys2Proof
end

