-- ==== Sys2Proof/Config.lean ====
section
/-! DEFINITION. What the manual leaves to the implementation: the two built-in glyphs, which no rule draws, and the
depth of the composers' fetches, which no rule fixes; and whether the link is up, which the world outside decides. All
are opaque, so no proof can lean on their values. -/

namespace Sys2Proof.Config

/-- The 256 by 64 notice picture "camera unavailable" (R158): whether the pixel at column x, row y is foreground.
The manual names its size and colours and gives no bitmap: a free value (log 1). -/
opaque noticeGlyph : Nat → Nat → Bool

/-- The 32 by 32 POOR warning glyph (R158): whether the pixel at column x, row y is foreground. The manual gives no
bitmap: a free value (log 1). -/
opaque poorGlyph : Nat → Nat → Bool

/-- How many output lines beyond the next one a composer presents fetches for. R20's chapter says only that fetches
run "ahead of the line it outputs": a free value (log 2). -/
opaque fetchAheadLines : Nat

/-- Whether the link is up in a sample period, at the moment of the grant with a given tag (R171, R192). The link's state
is the host's and the board's; no command tells it: a free value (log 38). -/
opaque linkUp : (sample tag : Nat) → Bool

end Sys2Proof.Config
end

