-- ==== Sys2Proof/Syntax.lean ====
section
/-! DEFINITION. The commands of the part: one constructor of Instr for each row of spec/opcode_table.json, with the
operands the event of that row carries. -/

namespace Sys2Proof

/-- The three display outputs (00_scope.md 0.6). -/
inductive Display where
  | front | rearL | rearR
deriving DecidableEq, Repr

/-- The two film streams F0 and F1. -/
inductive Stream where
  | f0 | f1
deriving DecidableEq, Repr

/-- The three audio zones. -/
inductive Zone where
  | cabin | phonesL | phonesR
deriving DecidableEq, Repr

/-- A route: the path from one stream to one zone (05, 5.1). -/
structure Route where
  stream : Stream
  zone : Zone
deriving DecidableEq, Repr

/-- The half of the area base that a register write replaces (R177). -/
inductive AreaHalf where
  | lo | hi
deriving DecidableEq, Repr

/-- The kinds of a request fault (R173). -/
inductive FaultKind where
  | error | corrupted | length | timeout | notSent
deriving DecidableEq, Repr

/-- What a completion carries to the part: data, a report that the host could not serve the read, or data marked as
corrupted (R171). A data completion whose byte count is not the one asked is the third fault of R171; it is told from
the length of the bytes. -/
inductive Completion where
  | data (bytes : List Byte)
  | error
  | corrupted
deriving DecidableEq, Repr

/-- How a script WRITE transaction ends on the camera I2C bus (R60). -/
inductive I2cEnd where
  | acknowledged | nackAddress | nackData
deriving DecidableEq, Repr

/-- A chime card as the tray holds it (11.5), field by field. -/
structure ChimeCard where
  sequence : Word
  ask : Byte
  cls : Byte
  source : Byte
  level : Byte
  frequency : Half
  onTime : Half
  offTime : Half
  repeats : Byte
  phonesL : Byte
  phonesR : Byte
  clipAddress : Addr
  clipCount : Word
deriving DecidableEq, Repr

/-- The commands. `tag` names the outstanding read that a completion or a fault belongs to (log 4); `params` are the
six parameter words of an ask. -/
inductive Instr where
  /-- COLD_START (R176): power-on or RESET_N. -/
  | coldStart
  /-- LINK_RESET (R185): PCIe function reset or hot reset. -/
  | linkReset
  /-- ATTACH (R178): the RUN command. -/
  | attach
  /-- DETACH (R183): the RUN command. -/
  | detach
  /-- QUIET (R184): the RUN command. -/
  | quiet
  /-- WAKE (R184): the RUN command. -/
  | wake
  /-- NO_COMMAND (R176): a RUN write whose command field (bits 10..8) is 0 or unnamed. -/
  | noCommand (value : Word)
  /-- AREA_BASE_WRITE (R177): a write to AREA_LO or AREA_HI. -/
  | areaBaseWrite (half : AreaHalf) (value : Word)
  /-- CAUSE_WRITE (R190). -/
  | causeWrite (value : Word)
  /-- MASK_WRITE (R191). -/
  | maskWrite (value : Word)
  /-- REGISTER_WRITE_IGNORED (R201): a write to IDENT or to offsets 0x18 to 0x1F. -/
  | registerWriteIgnored (offset : Nat) (value : Word)
  /-- HEADER_READ_DONE (R179). -/
  | headerReadDone (tag : Nat) (completion : Completion)
  /-- MESSAGE_SEND (R192): the request path is free and the link is up. -/
  | messageSend
  /-- FRAME_START (R1). -/
  | frameStart (display : Display)
  /-- FRAME_END (R21). -/
  | frameEnd (display : Display)
  /-- SELECT_WORD_READ_DONE (R7). -/
  | selectWordReadDone (tag : Nat) (completion : Completion)
  /-- BANK_READ_DONE (R8): one request of a candidate's read completes. -/
  | bankReadDone (tag : Nat) (completion : Completion)
  /-- DISPLAY_TIMING (R3). -/
  | displayTiming (display : Display) (sequence : Word) (params : List Word)
  /-- TIMING_RECORD_READ_DONE (R3). -/
  | timingRecordReadDone (tag : Nat) (completion : Completion)
  /-- DISPLAY_BLANK (R6). -/
  | displayBlank (display : Display) (sequence : Word) (params : List Word)
  /-- DISPLAY_SHOW (R6). -/
  | displayShow (display : Display) (sequence : Word) (params : List Word)
  /-- LINE_OUTPUT (R20): the composer outputs its next active line. -/
  | lineOutput (display : Display)
  /-- COMPOSER_FETCH_DONE (R20): one request of a source line fetch completes. -/
  | composerFetchDone (tag : Nat) (completion : Completion)
  /-- ASK_BOARD_READ_DONE (R187). -/
  | askBoardReadDone (tag : Nat) (completion : Completion)
  /-- SPARE_ASK (R187): an ask in a slot from 7 to 11. -/
  | spareAsk (slot : Nat) (sequence : Word) (code : Word) (params : List Word)
  /-- STREAM_PLAY (R29). -/
  | streamPlay (stream : Stream) (sequence : Word) (params : List Word)
  /-- STREAM_PAUSE (R32). -/
  | streamPause (stream : Stream) (sequence : Word) (params : List Word)
  /-- STREAM_STOP (R33). -/
  | streamStop (stream : Stream) (sequence : Word) (params : List Word)
  /-- POSTED_COUNT_READ_DONE (R189): one request carrying both counts of a kind. -/
  | postedCountReadDone (tag : Nat) (completion : Completion)
  /-- CARD_READ_DONE (R34). -/
  | cardReadDone (tag : Nat) (completion : Completion)
  /-- AUDIO_BLOCK_END (R37). -/
  | audioBlockEnd
  /-- AUDIO_FETCH_DONE (R42): one request of sound or clip samples completes. -/
  | audioFetchDone (tag : Nat) (completion : Completion)
  /-- FRAME_START_CODE (R62): the camera's frame start code with its frame number. -/
  | frameStartCode (number : Byte)
  /-- LINE_PACKET (R54): 12-bit line number, payload, 16-bit line check; the payload byte count is its length. -/
  | linePacket (line : BitVec 12) (payload : List Byte) (check : Half)
  /-- FRAME_END_CODE (R55). -/
  | frameEndCode
  /-- UNRECOGNISED_ELEMENT (R52). -/
  | unrecognisedElement
  /-- LOSS_TIMER_EXPIRY (R56). -/
  | lossTimerExpiry
  /-- SETTLE_EXPIRY (R58). -/
  | settleExpiry
  /-- WAIT_STEP_EXPIRY (R59). -/
  | waitStepExpiry
  /-- I2C_WRITE_DONE (R60). -/
  | i2cWriteDone (result : I2cEnd)
  /-- BUS_TIMEOUT (R60). -/
  | busTimeout
  /-- CAMERA_ON (R74). -/
  | cameraOn (sequence : Word) (params : List Word)
  /-- CAMERA_OFF (R74). -/
  | cameraOff (sequence : Word) (params : List Word)
  /-- CAMERA_LOAD (R75). -/
  | cameraLoad (sequence : Word) (params : List Word)
  /-- CAMERA_LOAD_READ_DONE (R75): one request of the three record reads completes. -/
  | cameraLoadReadDone (tag : Nat) (completion : Completion)
  /-- STORE_WRITE_DONE (R69): the link port has sent the store writer's burst. -/
  | storeWriteDone
  /-- VEHICLE_RECORD_READ_DONE (R81). -/
  | vehicleRecordReadDone (tag : Nat) (completion : Completion)
  /-- FRESHNESS_TIMER_EXPIRY (R82). -/
  | freshnessTimerExpiry
  /-- GUIDE_COMPUTATION_DONE (R87). -/
  | guideComputationDone
  /-- ROUTING_RECORD_READ_DONE (R103). -/
  | routingRecordReadDone (tag : Nat) (completion : Completion)
  /-- HOST_CHANGE_APPLY (R108). -/
  | hostChangeApply (route : Route)
  /-- RAMP_END (R109). -/
  | rampEnd (route : Route)
  /-- ZONE_SATURATION (R116). -/
  | zoneSaturation (zone : Zone)
  /-- MIXER_SET (R117). -/
  | mixerSet (sequence : Word) (params : List Word)
  /-- MIXER_SET_READ_DONE (R117). -/
  | mixerSetReadDone (tag : Nat) (completion : Completion)
  /-- CHIME_TRAY_READ_DONE (R122): one request of the tray read completes. -/
  | chimeTrayReadDone (tag : Nat) (completion : Completion)
  /-- CHIME_PLAY (R124): a card with ask PLAY is handed to the chime engine. -/
  | chimePlay (card : Nat) (fields : ChimeCard)
  /-- CHIME_STOP (R125): a card with ask STOP is handed to the chime engine. -/
  | chimeStop (card : Nat) (sequence : Word)
  /-- REPETITION_END (R131). -/
  | repetitionEnd
  /-- RELEASE_END (R133). -/
  | releaseEnd
  /-- BEEP_END (R139). -/
  | beepEnd
  /-- GAP_END (R139). -/
  | gapEnd
  /-- PROXIMITY_RELEASE_END (R138). -/
  | proximityReleaseEnd
  /-- REVERSE_IN_CHANGE (R144): the raw level now read. -/
  | reverseInChange (engaged : Bool)
  /-- DEBOUNCE_EXPIRY (R144). -/
  | debounceExpiry
  /-- DEADLINE_EXPIRY (R148). -/
  | deadlineExpiry
  /-- LINGER_EXPIRY (R152). -/
  | lingerExpiry
  /-- DIRECT_FREE_RUN_START (R159). -/
  | directFreeRunStart
  /-- DIRECT_LINE_START (R160). -/
  | directLineStart
  /-- REQUEST_GRANT (R167). -/
  | requestGrant
  /-- LINK_REQUEST_FAULT (R173). -/
  | linkRequestFault (tag : Nat) (kind : FaultKind)
  /-- READ_TIMEOUT (R171). -/
  | readTimeout (tag : Nat)
  /-- SEND_TIMEOUT (R171): the request on the path. -/
  | sendTimeout
  /-- LATE_COMPLETION_DISCARDED (R171). -/
  | lateCompletionDiscarded (tag : Nat)
  /-- STATUS_WRITE_COMPLETE (R173). -/
  | statusWriteComplete
deriving DecidableEq, Repr

end Sys2Proof
end

