-- ==== Sys2Proof/Decode.lean ====
section
/-! DEFINITION. The command a word spells. The rows of spec/opcode_table.json give no bits to any command: the part
takes register accesses, completions, camera elements, edges and expiries, none of which is a word of an instruction. -/

namespace Sys2Proof

/-- The command of a word by the table's bits: none for every word, as no row has bits (log 10). -/
def decodeTableWord (_nbits _w : Nat) : Option Instr := none

end Sys2Proof
end

