-- ==== Sys2Proof/Machine/Arith.lean ====
section
/-! DEFINITION. The arithmetic conventions of 00_scope.md 0.6: comparisons of wrapping counts, rounding, sample time,
and the little-endian fields of records (11_record_formats.md). "x div y" and "x mod y" of the manual, for y > 0, are
Lean's `/` and `%` on Int and Nat. -/

namespace Sys2Proof.Machine

/-- "a is not after b": (b − a) mod 2^32 < 2^31. -/
def notAfter (a b : Word) : Bool := decide ((b - a).toNat < 2147483648)

/-- "a is after b". -/
def isAfter (a b : Word) : Bool := !notAfter a b

/-- "a is before b": not after b and different from b. -/
def isBefore (a b : Word) : Bool := notAfter a b && a != b

/-- "a is at or after b": b is not after a. -/
def atOrAfter (a b : Word) : Bool := notAfter b a

/-- round(n ÷ d) for d > 0: to the nearest integer, halves away from zero. -/
def roundDiv (n : Int) (d : Nat) : Int :=
  if 0 ≤ n then (2 * n + d) / (2 * d) else -((2 * (-n) + d) / (2 * d))

/-- Limit a value to a range. -/
def clampInt (lo hi x : Int) : Int := if x < lo then lo else if hi < x then hi else x

/-- Sample periods of 48 kHz in so many milliseconds. -/
def msSamples (ms : Nat) : Nat := 48 * ms

/-! ## Record fields -/

/-- The byte at an offset; past the end 0. -/
def byteAt (bytes : List Byte) (o : Nat) : Byte := bytes.getD o 0

/-- A 16-bit field. -/
def halfAt (bytes : List Byte) (o : Nat) : Half := byteAt bytes (o + 1) ++ byteAt bytes o

/-- A 32-bit field. -/
def wordAt (bytes : List Byte) (o : Nat) : Word := halfAt bytes (o + 2) ++ halfAt bytes o

/-- A 64-bit address. -/
def addrAt (bytes : List Byte) (o : Nat) : Addr := wordAt bytes (o + 4) ++ wordAt bytes o

/-- The bytes of a 16-bit field. -/
def halfBytes (h : Half) : List Byte := [h.extractLsb' 0 8, h.extractLsb' 8 8]

/-- The bytes of a word. -/
def wordBytes (w : Word) : List Byte := halfBytes (w.extractLsb' 0 16) ++ halfBytes (w.extractLsb' 16 16)

/-- The bytes of an address. -/
def addrBytes (a : Addr) : List Byte := wordBytes (a.extractLsb' 0 32) ++ wordBytes (a.extractLsb' 32 32)

/-- The word of a signed value. -/
def wordOfInt (i : Int) : Word := BitVec.ofInt 32 i

/-- The word of a number. -/
def wordOfNat (n : Nat) : Word := BitVec.ofNat 32 n

/-- The word of a flag: 0 or 1 (R200). -/
def wordOfBool (b : Bool) : Word := if b then 1 else 0

/-- The code of an index or time with the value none (R200). -/
def noneWord : Word := 0xFFFFFFFF

/-- The word of an index that may be none. -/
def wordOfIndex (i : Option Nat) : Word := match i with | some n => wordOfNat n | none => noneWord

/-- A signed 16-bit field. -/
def signed16 (h : Half) : Int := h.toInt

/-- The signed 13-bit value of bits 12..0 (R198). -/
def signed13 (h : Half) : Int := (h.extractLsb' 0 13).toInt

/-- Apply a function to one element of a list. -/
def setAt {α : Type} (l : List α) (i : Nat) (f : α → α) : List α := l.modify i f

/-- Insert a run of bytes by its offset. -/
def insertRun (off : Nat) (bytes : List Byte) : List (Nat × List Byte) → List (Nat × List Byte)
  | [] => [(off, bytes)]
  | r :: rest => if off ≤ r.1 then (off, bytes) :: r :: rest else r :: insertRun off bytes rest

/-- All the bytes of a list of runs, in their order. -/
def runBytes (runs : List (Nat × List Byte)) : List Byte := runs.flatMap (·.2)

/-- Split a run of host bytes at the 256-byte aligned boundaries, in ascending order (R166): the sizes of its requests. -/
def splitRun (fuel : Nat) (addr : Addr) (len : Nat) : List (Addr × Nat) :=
  match fuel with
  | 0 => []
  | k + 1 =>
    if len = 0 then [] else
    let n := min len (256 - addr.toNat % 256)
    (addr, n) :: splitRun k (addr + BitVec.ofNat 64 n) (len - n)

/-- The requests of a run (R166). -/
def requestsOf (addr : Addr) (len : Nat) : List (Addr × Nat) := splitRun (len / 256 + 2) addr len

/-- The length of the first request of a run. -/
def firstRun (addr : Addr) (len : Nat) : Nat := min len (256 - addr.toNat % 256)

end Sys2Proof.Machine
end

