-- ==== Sys2Proof/Machine/State.lean ====
section
/-! DEFINITION. The state of the part, as plain data: every register, count, mode, timer, history, list, buffer and
record copy that the spec gives each of its blocks (00_scope.md 0.3), the requests on their way to host memory, the
bytes the part has written there, and the queue of commands that wait. Timers count 48 kHz sample periods (log 3).
State.reset is the machine after cold start. -/

namespace Sys2Proof.Machine

/-! ## Families of like things -/

/-- One thing for each display. -/
structure PerDisplay (α : Type) where
  front : α
  rearL : α
  rearR : α
deriving DecidableEq, Repr

/-- One thing for each stream. -/
structure PerStream (α : Type) where
  f0 : α
  f1 : α
deriving DecidableEq, Repr

/-- One thing for each zone. -/
structure PerZone (α : Type) where
  cabin : α
  phonesL : α
  phonesR : α
deriving DecidableEq, Repr

/-- The two kinds of card list of a stream (9.8). -/
inductive ListKind where
  | frames | sound
deriving DecidableEq, Repr

/-! ## Notice unit (chapter 10) -/

/-- The flags of CAUSE, in bit order (R201). -/
inductive Flag where
  | askAnswered | filmEvent | chimeDone | cameraChange | reverseChange | areaFault | linkFault | audioClip
deriving DecidableEq, Repr

/-- The kinds of the last area fault record (R194), in code order (R200). -/
inductive AreaFaultKind where
  | select | bankCount | bankRead | routing | postedCount | attach | selfDetach
deriving DecidableEq, Repr

/-- The last area fault record (R194). -/
structure AreaFault where
  kind : AreaFaultKind
  place : Word
  blockCount : Word
deriving DecidableEq, Repr

/-- CAUSE, MASK, the message mark, the notice counts in CAUSE bit order and the last area fault record. -/
structure Notice where
  cause : Byte
  mask : Byte
  message : Bool
  counts : List Word
  lastFault : Option AreaFault
deriving DecidableEq, Repr

/-! ## Link port (chapter 9) -/

/-- RUN's attach result (R176), in code order (R201). -/
inductive AttachResult where
  | none | pending | ok | misaligned | badVersion | readFault
deriving DecidableEq, Repr

/-- The register window's own state: RUN, AREA_LO, AREA_HI, and the two counts the port holds. -/
structure Port where
  attached : Bool
  quiet : Bool
  attachResult : AttachResult
  areaLo : Word
  areaHi : Word
  attachCount : Word
  blockCount : Word
deriving DecidableEq, Repr

/-! ## Requests and the arbiter (chapter 8) -/

/-- The arbiter's clients, in code order (R200). -/
inductive Client where
  | front | rearL | rearR | twin | storeWriter | audio | poller
deriving DecidableEq, Repr

/-- One thing for each client. -/
structure PerClient (α : Type) where
  front : α
  rearL : α
  rearR : α
  twin : α
  storeWriter : α
  audio : α
  poller : α
deriving DecidableEq, Repr

/-- What a read is for. A `serial` tells the work a read belongs to from later work of the same kind. -/
inductive ReadOf where
  | header
  | select (display : Display)
  | bankCount (display : Display) (serial : Nat)
  | bankEntries (display : Display) (serial offset : Nat)
  | timing (display : Display)
  | askBoard (upper : Bool)
  | postedCounts (kind : ListKind)
  | card (stream : Stream) (kind : ListKind) (serial : Nat) (index : Word)
  | cameraRecord (serial : Nat)
  | geometryRecord (serial : Nat)
  | script (serial part : Nat)
  | mixerSet
  | routing
  | vehicle
  | tray (upper : Bool)
  | layerRow (display : Display) (serial layer row offset : Nat)
  | twinRow (serial row offset : Nat)
  | soundSamples (stream : Stream) (serial place : Nat)
  | clipSamples (serial take repetition position : Nat)
deriving DecidableEq, Repr

/-- The work of a request: a read of `length` bytes, a status page write at an offset of the common area, or a store
write of part of a camera row. -/
inductive Work where
  | read (what : ReadOf) (length : Nat)
  | status (offset : Nat) (bytes : List Byte)
  | store (frame row : Nat) (bytes : List Byte)
deriving DecidableEq, Repr

/-- A request as its client presents it (R166). -/
structure Request where
  client : Client
  addr : Addr
  work : Work
deriving DecidableEq, Repr

/-- A request the arbiter has granted. `live` is cleared when DETACH leaves a read to run to its end and be discarded
(R174); `age` counts the sample periods since the grant (R171). -/
structure Issued where
  tag : Nat
  request : Request
  live : Bool
  age : Nat
deriving DecidableEq, Repr

/-- The rear pointer (R169). -/
inductive RearTurn where
  | rearL | twin | rearR
deriving DecidableEq, Repr

/-- The last fault of the link fault status (R173). -/
structure LinkFault where
  client : Client
  kind : FaultKind
  addr : Addr
deriving DecidableEq, Repr

/-- The arbiter: the request on the path, the outstanding reads, the rear pointer and the fault counts. -/
structure Arbiter where
  path : Option Issued
  outstanding : List Issued
  rearTurn : RearTurn
  consecutive : PerClient Nat
  faults : PerClient Word
  total : Word
  lastFault : Option LinkFault
  nextTag : Nat
deriving DecidableEq, Repr

/-! ## Area poller (chapter 9) -/

/-- Results of an ask (R188), in code order (R200). -/
inductive AskResult where
  | empty | done | refusedState | refusedField | superseded
deriving DecidableEq, Repr

/-- One ask slot: the last taken sequence, the ask in reading, and the answer record. -/
structure AskSlot where
  lastTaken : Word
  reading : Option Word
  answered : Word
  result : AskResult
  blockCount : Word
deriving DecidableEq, Repr

/-- The last-read copies of the polled words (00_scope.md 0.3). -/
structure PollCopies where
  select : PerDisplay (Option (List Byte))
  frameCounts : Option (List Byte)
  soundCounts : Option (List Byte)
  routing : Option (List Byte)
  vehicle : Option (List Byte)
deriving DecidableEq, Repr

/-- The poller: its order of requests, oldest first (R170), the twelve ask slots, the tray read in progress, the posted
count error counts, and the mark of a MIXER_SET that waits for a block end (R117). `passed` names the slots that the ask
board reads in progress pass over, which had an ask in reading or waiting at the block end that made them (R187, R117);
`written` gathers the offsets of the status fields that the command in progress writes although they keep their values. -/
structure Poller where
  order : List Request
  copies : PollCopies
  slots : List AskSlot
  trayLow : Option (List Byte)
  trayHigh : Option (List Byte)
  trayFault : Bool
  frameErrors : PerStream Word
  soundErrors : PerStream Word
  mixerWaits : Bool
  passed : List Nat
  written : List Nat
deriving DecidableEq, Repr

/-! ## Composers (chapter 1) -/

/-- A rectangle: signed corner, unsigned size. -/
structure Rect where
  x : Int
  y : Int
  w : Nat
  h : Nat
deriving DecidableEq, Repr

/-- A display timing (1.1). -/
structure Timing where
  activeW : Nat
  activeH : Nat
  totalW : Nat
  totalH : Nat
  divider : Nat
  lead : Nat
  pair : Bool
deriving DecidableEq, Repr

inductive Bank where
  | a | b
deriving DecidableEq, Repr

/-- The bank fault (1.3), in code order. -/
inductive BankFault where
  | none | select | count | read
deriving DecidableEq, Repr

/-- The scaler quality levels, in code order. -/
inductive Level where
  | full | reduced | minimal
deriving DecidableEq, Repr

/-- A lateness history entry, in code order. -/
inductive LateMark where
  | empty | onTime | late
deriving DecidableEq, Repr

/-- The fields of a layer entry that belong to its kind (1.4). Codes are kept as read; R12 judges them. -/
inductive EntryBody where
  | none
  | fill (alpha red green blue : Byte)
  | picture (addr : Addr) (pitch : Word) (format : Byte) (sx sy sw sh : Half)
  | film (stream fit : Byte)
  | camera
  | unknown (kind : Byte)
deriving DecidableEq, Repr

/-- A layer entry of a bank, with the bad mark of R12. -/
structure Entry where
  z : Nat
  opacity : Nat
  rect : Rect
  body : EntryBody
  bad : Bool
deriving DecidableEq, Repr

/-- The shown bank: its name, the change count it was latched under, and the composer's own copy of its entries. -/
structure Shown where
  bank : Bank
  count : Word
  entries : List Entry
deriving DecidableEq, Repr

/-- The candidate (1.3). `size` is the entry count once the header has been read; `got` holds the entry bytes read so
far, each run with its offset from the first entry. -/
inductive Candidate where
  | none
  | reading (serial : Nat) (bank : Bank) (count : Word) (size : Option Nat) (got : List (Nat × List Byte))
  | waiting (shown : Shown)
deriving DecidableEq, Repr

/-- A pixel with alpha, channels 0..255. -/
structure Argb where
  a : Nat
  r : Nat
  g : Nat
  b : Nat
deriving DecidableEq, Repr

/-- An output pixel. -/
structure Rgb where
  r : Nat
  g : Nat
  b : Nat
deriving DecidableEq, Repr

/-- The pixel formats of fetched sources (11.3). -/
inductive PixFmt where
  | argb8888 | rgb565 | yuyv | wide32
deriving DecidableEq, Repr

/-- Where a fetched layer's pixels lie in host memory. -/
structure Pixels where
  addr : Addr
  pitch : Nat
  format : PixFmt
  sx : Nat
  sy : Nat
  sw : Nat
  sh : Nat
deriving DecidableEq, Repr

/-- What a layer of a frame draws. -/
inductive LayerSource where
  | fill (color : Argb)
  | picture (pixels : Pixels)
  | film (stream : Stream) (pixels : Pixels)
  | store (pixels : Pixels)
  | twin (stream : Stream)
  | direct
  | black
  | notice
  | guides
  | poor
deriving DecidableEq, Repr

/-- The bytes of one source row as they arrive, run by run, and whether a fetch of it ended with a fault. -/
structure RowBuf where
  row : Nat
  chunks : List (Nat × List Byte)
  faulted : Bool
deriving DecidableEq, Repr

/-- A layer's output line: its pixels from column x0 on. -/
structure LayerLine where
  x0 : Int
  pixels : List Argb
deriving DecidableEq, Repr

/-- One layer of a frame: its source, opacity, unclipped destination and clip, whether the guide set is drawn over it
(R14), the rows fetched, its previous output line (R20), and whether a STREAM_STOP has ended it (R33). -/
structure Layer where
  source : LayerSource
  opacity : Nat
  dest : Rect
  clip : Rect
  withGuides : Bool
  rows : List RowBuf
  prev : Option LayerLine
  dropped : Bool
deriving DecidableEq, Repr

/-- One source row still to be fetched: the output line that first needs it, its layer, its row, and the bytes of it
already presented. -/
structure RowFetch where
  line : Int
  layer : Nat
  row : Nat
  offset : Nat
deriving DecidableEq, Repr

/-! ## Guide line engine (chapter 4), the sets a frame draws -/

/-- Guide bands and mark colours (R97, R98). -/
inductive Band where
  | red | yellow | green
deriving DecidableEq, Repr

/-- A point on the FRONT screen with the band of the segment that begins at it. -/
structure GuidePoint where
  x : Int
  y : Int
  band : Band
deriving DecidableEq, Repr

/-- A bar between two screen points. -/
structure GuideBar where
  x1 : Int
  y1 : Int
  x2 : Int
  y2 : Int
deriving DecidableEq, Repr

/-- Kinds of a guide set (R82), in code order after none. -/
inductive SetKind where
  | live | held | static
deriving DecidableEq, Repr

/-- A guide set (4.3). `turn` is none for the straight mark, otherwise δ and ρ. -/
structure GuideSet where
  kind : SetKind
  angle : Int
  turn : Option (Int × Int)
  left : List GuidePoint
  right : List GuidePoint
  mark1 : Option GuideBar
  mark2 : Option GuideBar
  mark3 : Option GuideBar
  bar : Option (Nat × GuideBar)
  clip : Rect
deriving DecidableEq, Repr

/-- The camera frame FRONT takes direct (R160), whether it has been closed or abandoned, and the camera size taken at the
frame start (R155). -/
structure DirectFrame where
  frame : Nat
  closed : Bool
  width : Nat
  height : Nat
deriving DecidableEq, Repr

/-- A frame in progress on a display, from its frame start to its frame end. -/
structure Frame where
  serial : Nat
  blank : Bool
  width : Nat
  height : Nat
  nextLine : Nat
  late : Bool
  level : Level
  layers : List Layer
  plan : List RowFetch
  locked : Bool
  direct : Option DirectFrame
  lineStarted : Bool
  guideSet : Option GuideSet
deriving DecidableEq, Repr

/-- The blank reasons of the status page (R200). -/
structure BlankReasons where
  user : Bool
  quiet : Bool
  restart : Bool
  detached : Bool
deriving DecidableEq, Repr

/-- A display's composer (chapter 1). -/
structure Composer where
  timing : Timing
  waiting : Option Timing
  userBlank : Bool
  shown : Option Shown
  lastSelect : Option (Word × Word)
  candidate : Candidate
  candidateSerial : Nat
  bankFault : BankFault
  entryBad : Word
  refusals : Word
  lateFrames : Word
  level : Level
  history : List LateMark
  held : Option Level
  restart : Bool
  blank : Bool
  reasons : BlankReasons
  frame : Option Frame
  frameSerial : Nat
  output : List Rgb
deriving DecidableEq, Repr

/-- The twin fetch of the rear pair (1.7): whether it is in use, the shared frame, and the fetch in progress.
`size` is the drawn size of the shared film layer, `topL` and `topR` its first line on each display. -/
structure Twin where
  inUse : Bool
  serial : Nat
  stream : Stream
  pixels : Pixels
  destH : Nat
  topL : Int
  topR : Int
  level : Level
  rows : List RowBuf
  plan : List RowFetch
deriving DecidableEq, Repr

/-- The FRONT modes (7.4), in code order. -/
inductive FrontMode where
  | normal | reverse | direct
deriving DecidableEq, Repr

/-- FRONT's mode, lock mark and leave mark (7.4, R161). -/
structure FrontView where
  mode : FrontMode
  locked : Bool
  leave : Bool
deriving DecidableEq, Repr

/-! ## Film timing unit (chapter 2) -/

inductive StreamState where
  | stopped | priming | playing | paused | starved
deriving DecidableEq, Repr

inductive ClockMode where
  | sound | free
deriving DecidableEq, Repr

/-- A held frame card (11.4). -/
structure FrameCard where
  index : Word
  addr : Addr
  pitch : Word
  width : Half
  height : Half
  format : Byte
  pts : Word
  duration : Word
  tag : Word
  good : Bool
  shown : Bool
deriving DecidableEq, Repr

/-- A held sound card. -/
structure SoundCard where
  index : Word
  addr : Addr
  count : Word
  pts : Word
  good : Bool
  done : Bool
deriving DecidableEq, Repr

/-- One of the 256 sample places of a block: silence of any kind, a sample asked for, or a sample fetched. -/
inductive Place where
  | silence
  | want
  | got (left right : Half)
deriving DecidableEq, Repr

/-- A film stream (2.1). `intake` tells card reads of the present list from those before a STOP; `block` is the block
being output; `clockShown` is the clock as last written at a block end (R51). A list being read has one card read made and
not ended; one at fault waits, after a read that ended with a fault, for the next event that reads its posted count
(R34). -/
structure Film where
  state : StreamState
  mode : ClockMode
  clock : Word
  startPts : Option Word
  waitingPlay : Option Word
  frameReleased : Word
  framePosted : Word
  frameCursor : Word
  frames : List FrameCard
  frameReading : Bool
  frameFaulted : Bool
  soundReleased : Word
  soundPosted : Word
  soundCursor : Word
  sounds : List SoundCard
  soundReading : Bool
  soundFaulted : Bool
  headOffset : Nat
  intake : Nat
  current : PerDisplay (Option Word)
  underrun : PerDisplay Bool
  dropped : Word
  badFrames : Word
  badSounds : Word
  underruns : Word
  starves : Word
  misses : Word
  superseded : Option Word
  block : List Place
  blockMissed : Bool
  clockShown : Word
deriving DecidableEq, Repr

/-! ## Camera capture unit (chapter 3) -/

/-- The capture states (3.4), in code order. -/
inductive CaptureState where
  | off | powering | setup | armed | capturing | stopping | lost | fault
deriving DecidableEq, Repr

/-- The three store addresses of a camera record. -/
structure Stores where
  s0 : Addr
  s1 : Addr
  s2 : Addr
deriving DecidableEq, Repr

/-- The kept camera record (R73). -/
structure CameraRecord where
  width : Nat
  height : Nat
  wide : Bool
  stores : Option Stores
  decimation : Nat
  threshold : Nat
  viewX : Nat
  viewY : Nat
  viewW : Nat
  viewH : Nat
  strip : Nat
  deadline : Nat
  linger : Nat
deriving DecidableEq, Repr

/-- The kept geometry record (4.2). -/
structure Geometry where
  wheelbase : Nat
  overhang : Nat
  track : Nat
  ratio : Nat
  d1 : Nat
  d2 : Nat
  d3 : Nat
  d4 : Nat
  h11 : Int
  h12 : Int
  h13 : Int
  h21 : Int
  h22 : Int
  h23 : Int
  h31 : Int
  h32 : Int
  h33 : Int
deriving DecidableEq, Repr

/-- A kept script step (R59); the END is the end of the list. -/
inductive ScriptStep where
  | write (device : Byte) (register : Half) (bytes : List Byte)
  | wait (duration : Nat)
deriving DecidableEq, Repr

/-- A kept frame from its frame start code to its completion (3.2); `record` is the camera record in force at its code, by
which its rows are stored (log 25). -/
structure KeptFrame where
  id : Nat
  number : Byte
  expected : Nat
  suspect : Nat
  missing : Nat
  overrun : Bool
  toWriter : Bool
  toFront : Bool
  faulted : Bool
  closed : Bool
  spoiled : Bool
  target : Option Nat
  record : CameraRecord
deriving DecidableEq, Repr

/-- The newest published store (R70): its number and its frame's number. -/
structure Published where
  store : Nat
  number : Byte
deriving DecidableEq, Repr

/-- The open frame (3.2). -/
inductive OpenFrame where
  | none
  | ignored (number : Byte)
  | kept (id : Nat)
deriving DecidableEq, Repr

/-- A line of the line buffer (3.5): its frame and row, and which consumers have still to take it; `issued` counts the
store bytes of it already granted. The half mark counts the line while its frame has the store writer as a consumer, also
once the writer has written it (R66, R168, log 42). -/
structure BufLine where
  frame : Nat
  row : Nat
  payload : List Byte
  forWriter : Bool
  forFront : Bool
  issued : Nat
  counted : Bool
deriving DecidableEq, Repr

/-- A frame history entry, in code order (R72, R200). -/
inductive FrameMark where
  | empty | whole | bad
deriving DecidableEq, Repr

/-- Script fault reasons (R60), in code order. -/
inductive ScriptFault where
  | none | nackAddress | nackData | busTimeout
deriving DecidableEq, Repr

/-- Load faults (R75), in code order. -/
inductive LoadFault where
  | none | camera | geometry | script
deriving DecidableEq, Repr

/-- A CAMERA_LOAD in reading (R75). -/
structure CameraLoad where
  camera : Option (List Byte)
  geometry : Option (List Byte)
  script : List Byte
  scriptRead : Bool
deriving DecidableEq, Repr

/-- The camera capture unit (chapter 3). -/
structure Capture where
  state : CaptureState
  askedOn : Bool
  hold : Bool
  record : CameraRecord
  geometry : Option Geometry
  script : List ScriptStep
  scriptStep : Nat
  i2c : Option (List Byte)
  dropWaits : Bool
  settleTimer : Option Nat
  stepTimer : Option Nat
  lossTimer : Option Nat
  decimation : Nat
  openFrame : OpenFrame
  frames : List KeptFrame
  nextFrame : Nat
  buffer : List BufLine
  published : Option Published
  frontReading : Option Nat
  history : List FrameMark
  poor : Bool
  publications : Word
  whole : Word
  spoiled : Word
  ignored : Word
  suspectLines : Word
  missingLines : Word
  overruns : Word
  losses : Word
  faultStep : Option Nat
  faultReason : ScriptFault
  loadFault : LoadFault
  loads : Word
  load : Option CameraLoad
  loadSerial : Nat
deriving DecidableEq, Repr

/-! ## Guide line engine (chapter 4), its own state -/

/-- The freshness states (R82), in code order. -/
inductive Freshness where
  | fresh | held | static
deriving DecidableEq, Repr

/-- A vehicle sample: the limited steering angle and the four distances, none for no echo. -/
structure Sample where
  angle : Int
  d0 : Option Nat
  d1 : Option Nat
  d2 : Option Nat
  d3 : Option Nat
deriving DecidableEq, Repr

/-- The inputs a computation takes at its start (R86). -/
structure GuideInputs where
  kind : SetKind
  angle : Int
  nearest : Option Nat
  geometry : Geometry
  camW : Nat
  camH : Nat
  view : Rect
deriving DecidableEq, Repr

/-- What the guide status says of the set of the last completed computation, kept when the set is discarded (R101): the
point counts of its track lines, the presence of its marks, and D with its obstacle bar. -/
structure GuideSummary where
  left : Nat
  right : Nat
  mark1 : Bool
  mark2 : Bool
  mark3 : Bool
  bar : Option Nat
deriving DecidableEq, Repr

/-- The guide line engine (4.1, 4.3). The next set is a function of the inputs in flight. -/
structure Guide where
  sample : Option Sample
  reference : Option Word
  freshness : Freshness
  timer : Option Nat
  samplesTaken : Word
  staleCount : Word
  viewDemand : Bool
  cameraDrawn : Bool
  inFlight : Option GuideInputs
  shown : Option GuideSet
  completed : Word
  abandoned : Word
  referenceShown : Option Word
  summary : GuideSummary
deriving DecidableEq, Repr

/-! ## Mixer (chapter 5) -/

/-- A route's two fields of a routing record. -/
structure RouteSetting where
  enable : Byte
  attenuation : Byte
deriving DecidableEq, Repr

/-- A routing record (5.2). -/
structure Routing where
  routes : PerStream (PerZone RouteSetting)
  masters : PerZone Byte
  duck : Byte
deriving DecidableEq, Repr

/-- A pending host change (R107): the new host level (none is MUTE), the duck depth it carries, and the samples of the
wait that remain. -/
structure PendingChange where
  level : Option Nat
  duck : Option Nat
  wait : Nat
deriving DecidableEq, Repr

/-- A ramp (R109): `step` is the last step used. -/
structure Ramp where
  start : Nat
  target : Nat
  step : Nat
deriving DecidableEq, Repr

/-- A route: applied host level (none is MUTE), route duck depth, pending change, gain, target in force, ramp. -/
structure RouteState where
  level : Option Nat
  duck : Nat
  pending : Option PendingChange
  gain : Nat
  target : Nat
  ramp : Option Ramp
deriving DecidableEq, Repr

/-- A stereo sample. -/
structure Stereo where
  left : Int
  right : Int
deriving DecidableEq, Repr

/-- The mixer (5.1). `lastCopy` pairs the record last read with whether it was taken; `lastLeft` is the last sample of
each stream's source channel; `output` is the last sample of each zone; `shown` is the mixer status as last written. -/
structure Mixer where
  taken : Routing
  lastCopy : Option (Routing × Bool)
  routes : PerStream (PerZone RouteState)
  duckHanded : Bool
  duckApplied : Bool
  muteHanded : Bool
  muteApplied : Bool
  reverseHold : Bool
  quietMute : Bool
  wakeMark : Bool
  clipMark : PerZone Bool
  clips : PerZone Word
  routingFault : Nat
  refusals : Word
  lastLeft : PerStream Int
  output : PerZone Stereo
  shown : List Word
deriving DecidableEq, Repr

/-! ## Chime engine (chapter 6) -/

/-- Chime answer states (6.1), in code order. -/
inductive ChimeAnswer where
  | none | waiting | playing | finished | stopped | suppressed | refused
deriving DecidableEq, Repr

/-- Where a chime comes from (R128). -/
inductive ChimeSource where
  | card (n : Nat)
  | cameraUnavailable
  | sensingUnavailable
deriving DecidableEq, Repr

/-- What a chime plays: a tone (Hz, ms, ms) or a clip. -/
inductive ChimeProgram where
  | tone (frequency onTime offTime : Nat)
  | clip (addr : Addr) (count : Nat)
deriving DecidableEq, Repr

/-- A chime of the waiting list or the main voice (R128). -/
structure Chime where
  source : ChimeSource
  cls : Nat
  take : Nat
  program : ChimeProgram
  level : Nat
  repeats : Nat
  phonesL : Bool
  phonesR : Bool
  done : Nat
deriving DecidableEq, Repr

/-- End marks (6.4): none, with answer STOPPED, without answer, and without answer on a tray chime that DETACH or a link
reset has forgotten, which finishes no more (R141). -/
inductive EndMark where
  | none | stopped | silent | forgotten
deriving DecidableEq, Repr

/-- A chime on the main voice: `owned` while it is still its card's chime; `position` counts the samples of the
repetition already output; `phase` is the tone generator's; `ended` is set when the repetition has ended and nothing more
of the chime sounds (R133, R141). -/
structure VoiceChime where
  chime : Chime
  owned : Bool
  mark : EndMark
  position : Nat
  phase : Half
  ended : Bool
deriving DecidableEq, Repr

/-- The main voice (6.4); a release holds the release samples already output. -/
inductive MainVoice where
  | idle
  | sounding (voice : VoiceChime)
  | releasing (voice : VoiceChime) (sample : Nat)
deriving DecidableEq, Repr

/-- One tray card's record (6.1, R127). -/
structure CardState where
  lastTaken : Option Word
  answered : Word
  state : ChimeAnswer
  done : Word
  blockCount : Word
deriving DecidableEq, Repr

/-- Proximity voice states (6.6). -/
inductive ProximityState where
  | inactive | beep | gap | releasing | starting
deriving DecidableEq, Repr

/-- What follows a proximity release. -/
inductive AfterRelease where
  | inactive | gap | starting
deriving DecidableEq, Repr

/-- The proximity voice (6.6): its state, the last distance report, the reverse showing input, the off time last taken
(ms), whether the beep is continuous, the samples of the beep, gap or release already output, and what follows a
release. `beepSamples` counts the beep's own samples while it is released. -/
structure Proximity where
  state : ProximityState
  active : Bool
  fresh : Bool
  nearest : Option Nat
  showing : Bool
  offTime : Nat
  continuous : Bool
  position : Nat
  beepSamples : Nat
  phase : Half
  after : AfterRelease
deriving DecidableEq, Repr

/-- A fetched clip sample: the take number and repetition it is played in, its position and its value (R135). -/
structure ClipSample where
  take : Nat
  repetition : Nat
  position : Nat
  value : Half
deriving DecidableEq, Repr

/-- How far the samples of a take's repetition have been presented in the block being output: the positions below
`upTo` (R135). -/
structure ClipAsked where
  take : Nat
  repetition : Nat
  upTo : Nat
deriving DecidableEq, Repr

/-- The chime engine (chapter 6). `clipGot` holds the clip samples fetched for the block being output, and `clipAsked`
how far the samples of that block have been presented (R42, R135). `clipEnded` is the take number of a chime on the main
voice whose card's answer has ended: its clip is read no more, whatever the card is asked next (R127). -/
structure ChimeEngine where
  cards : List CardState
  waiting : List Chime
  takes : Nat
  voice : MainVoice
  proximity : Proximity
  clipGot : List ClipSample
  clipAsked : List ClipAsked
  clipMissed : Bool
  clipEnded : Option Nat
  finished : Word
  stopped : Word
  suppressed : Word
  refused : Word
  returns : Word
  clipMisses : Word
  droppedRequests : Word
deriving DecidableEq, Repr

/-! ## Reverse view controller (chapter 7) -/

/-- The reverse view states (7.2), in code order. -/
inductive View where
  | off | waking | showing | unavailable | linger
deriving DecidableEq, Repr

/-- The reverse view controller: raw and debounced level of REVERSE_IN, timers, view, delivery mark, counts. -/
structure Reverse where
  raw : Bool
  level : Bool
  debounce : Option Nat
  view : View
  deadline : Option Nat
  lingerTimer : Option Nat
  delivered : Bool
  assertedAt : Nat
  engagements : Word
  unavailables : Word
  expiries : Word
  lastShow : Option Nat
deriving DecidableEq, Repr

/-! ## The sample clock, the bytes written, and the whole -/

/-- The 48 kHz sample clock: sample periods since reset, samples of the block already output, the block's serial number,
and the audio fetcher's requests still to be presented (R42). -/
structure AudioClock where
  now : Nat
  position : Nat
  serial : Nat
  queue : List Request
deriving DecidableEq, Repr

/-- The bytes the part has written to host memory, by address, in rising order of addresses. -/
abbrev Memory := List Host.Cell

/-- The whole part. -/
structure State where
  port : Port
  notice : Notice
  arbiter : Arbiter
  poller : Poller
  composers : PerDisplay Composer
  pairStarting : Bool
  twin : Twin
  frontView : FrontView
  film : PerStream Film
  capture : Capture
  guide : Guide
  mixer : Mixer
  chime : ChimeEngine
  reverse : Reverse
  audio : AudioClock
  memory : Memory
  pending : List Instr
deriving DecidableEq, Repr

/-- Why a command stops. -/
inductive Fault where
  /-- Raised by execNoCommand, execRegisterWriteIgnored and execSpareAsk when the command's operands spell another
  command (a RUN write with a named command, a write to a register that takes it, an ask of a slot with an owner).
  Safe: no such command is sent. -/
  | illFormed
deriving DecidableEq, Repr

/-- Why a command is refused. -/
inductive Refusal where
  /-- A row of the table without a meaning; no arm of exec answers it. Safe. -/
  | notModelled (mnemonic : String)
deriving DecidableEq, Repr

/-! ## Cold start values -/

/-- The default timing of FRONT (R1). -/
def frontTiming : Timing := ⟨1280, 720, 1650, 750, 3, 0, false⟩

/-- The default timing of REAR_L and REAR_R (R1). -/
def rearTiming : Timing := ⟨1024, 600, 1250, 660, 5, 0, false⟩

/-- A composer after cold start (R26). -/
def Composer.reset (t : Timing) : Composer where
  timing := t
  waiting := none
  userBlank := false
  shown := none
  lastSelect := none
  candidate := .none
  candidateSerial := 0
  bankFault := .none
  entryBad := 0
  refusals := 0
  lateFrames := 0
  level := .full
  history := List.replicate 8 .empty
  held := none
  restart := false
  blank := true
  reasons := ⟨false, false, false, true⟩
  frame := none
  frameSerial := 0
  output := []

/-- A stream after cold start (R49). -/
def Film.reset : Film where
  state := .stopped
  mode := .sound
  clock := 0
  startPts := none
  waitingPlay := none
  frameReleased := 0
  framePosted := 0
  frameCursor := 0
  frames := []
  frameReading := false
  frameFaulted := false
  soundReleased := 0
  soundPosted := 0
  soundCursor := 0
  sounds := []
  soundReading := false
  soundFaulted := false
  headOffset := 0
  intake := 0
  current := ⟨none, none, none⟩
  underrun := ⟨false, false, false⟩
  dropped := 0
  badFrames := 0
  badSounds := 0
  underruns := 0
  starves := 0
  misses := 0
  superseded := none
  block := []
  blockMissed := false
  clockShown := 0

/-- The kept camera record after cold start (R73). -/
def CameraRecord.reset : CameraRecord :=
  ⟨1280, 720, false, none, 0, 8, 0, 0, 1280, 600, 120, 2000, 3000⟩

/-- The capture unit after cold start (R73, R79). -/
def Capture.reset : Capture where
  state := .off
  askedOn := false
  hold := false
  record := CameraRecord.reset
  geometry := none
  script := []
  scriptStep := 0
  i2c := none
  dropWaits := false
  settleTimer := none
  stepTimer := none
  lossTimer := none
  decimation := 0
  openFrame := .none
  frames := []
  nextFrame := 0
  buffer := []
  published := none
  frontReading := none
  history := List.replicate 8 .empty
  poor := false
  publications := 0
  whole := 0
  spoiled := 0
  ignored := 0
  suspectLines := 0
  missingLines := 0
  overruns := 0
  losses := 0
  faultStep := none
  faultReason := .none
  loadFault := .none
  loads := 0
  load := none
  loadSerial := 0

/-- The guide line engine after cold start (R84, R101). -/
def Guide.reset : Guide :=
  ⟨none, none, .static, none, 0, 0, false, false, none, none, 0, 0, none, ⟨0, 0, false, false, false, none⟩⟩

/-- The taken routing after cold start (R119, R120): every route disabled with attenuation 0, every master 0, duck
depth 36. -/
def Routing.reset : Routing :=
  ⟨⟨⟨⟨0, 0⟩, ⟨0, 0⟩, ⟨0, 0⟩⟩, ⟨⟨0, 0⟩, ⟨0, 0⟩, ⟨0, 0⟩⟩⟩, ⟨0, 0, 0⟩, 36⟩

/-- A route after cold start (R120). -/
def RouteState.reset : RouteState := ⟨none, 36, none, 0, 0, none⟩

/-- The mixer after cold start (R120). -/
def Mixer.reset : Mixer where
  taken := Routing.reset
  lastCopy := none
  routes := ⟨⟨.reset, .reset, .reset⟩, ⟨.reset, .reset, .reset⟩⟩
  duckHanded := false
  duckApplied := false
  muteHanded := false
  muteApplied := false
  reverseHold := false
  quietMute := false
  wakeMark := false
  clipMark := ⟨false, false, false⟩
  clips := ⟨0, 0, 0⟩
  routingFault := 0
  refusals := 0
  lastLeft := ⟨0, 0⟩
  output := ⟨⟨0, 0⟩, ⟨0, 0⟩, ⟨0, 0⟩⟩
  shown := []

/-- The proximity voice after cold start (R142). -/
def Proximity.reset : Proximity :=
  ⟨.inactive, false, false, none, false, 0, false, 0, 0, 0, .inactive⟩

/-- The chime engine after cold start (R142). -/
def ChimeEngine.reset : ChimeEngine where
  cards := List.replicate 8 ⟨none, 0, .none, 0, 0⟩
  waiting := []
  takes := 0
  voice := .idle
  proximity := Proximity.reset
  clipGot := []
  clipAsked := []
  clipMissed := false
  clipEnded := none
  finished := 0
  stopped := 0
  suppressed := 0
  refused := 0
  returns := 0
  clipMisses := 0
  droppedRequests := 0

/-- The reverse view controller after cold start (R165). -/
def Reverse.reset : Reverse :=
  ⟨false, false, none, .off, none, none, false, 0, 0, 0, 0, none⟩

/-- The poller after cold start (R185). -/
def Poller.reset : Poller where
  order := []
  copies := ⟨⟨none, none, none⟩, none, none, none, none⟩
  slots := List.replicate 12 ⟨0, none, 0, .empty, 0⟩
  trayLow := none
  trayHigh := none
  trayFault := false
  frameErrors := ⟨0, 0⟩
  soundErrors := ⟨0, 0⟩
  mixerWaits := false
  passed := []
  written := []

/-- The arbiter after cold start (R175). -/
def Arbiter.reset : Arbiter where
  path := none
  outstanding := []
  rearTurn := .rearL
  consecutive := ⟨0, 0, 0, 0, 0, 0, 0⟩
  faults := ⟨0, 0, 0, 0, 0, 0, 0⟩
  total := 0
  lastFault := none
  nextTag := 0

/-- The part right after cold start. -/
def State.reset : State where
  port := ⟨false, false, .none, 0, 0, 0, 0⟩
  notice := ⟨0, 0, false, List.replicate 8 0, none⟩
  arbiter := Arbiter.reset
  poller := Poller.reset
  composers := ⟨Composer.reset frontTiming, Composer.reset rearTiming, Composer.reset rearTiming⟩
  pairStarting := false
  twin := ⟨false, 0, .f0, ⟨0, 0, .yuyv, 0, 0, 0, 0⟩, 0, 0, 0, .full, [], []⟩
  frontView := ⟨.normal, false, false⟩
  film := ⟨Film.reset, Film.reset⟩
  capture := Capture.reset
  guide := Guide.reset
  mixer := Mixer.reset
  chime := ChimeEngine.reset
  reverse := Reverse.reset
  audio := ⟨0, 0, 0, []⟩
  memory := []
  pending := []

end Sys2Proof.Machine
end

