-- ==== Sys2Proof/Machine/Ops.lean ====
section
/-! DEFINITION. The named operations shared by the blocks: access to families of things, the bytes written to host
memory, the poller's order of requests (R170), the answer records of the ask board (R187, R188), the need for the camera
and the wanted FRONT mode. -/

namespace Sys2Proof.Machine

/-! ## Families -/

def PerDisplay.get {α : Type} (p : PerDisplay α) : Display → α
  | .front => p.front
  | .rearL => p.rearL
  | .rearR => p.rearR

def PerDisplay.update {α : Type} (p : PerDisplay α) (d : Display) (f : α → α) : PerDisplay α :=
  match d with
  | .front => { p with front := f p.front }
  | .rearL => { p with rearL := f p.rearL }
  | .rearR => { p with rearR := f p.rearR }

def PerDisplay.map {α β : Type} (f : α → β) (p : PerDisplay α) : PerDisplay β :=
  ⟨f p.front, f p.rearL, f p.rearR⟩

def PerStream.get {α : Type} (p : PerStream α) : Stream → α
  | .f0 => p.f0
  | .f1 => p.f1

def PerStream.update {α : Type} (p : PerStream α) (st : Stream) (f : α → α) : PerStream α :=
  match st with
  | .f0 => { p with f0 := f p.f0 }
  | .f1 => { p with f1 := f p.f1 }

def PerStream.map {α β : Type} (f : α → β) (p : PerStream α) : PerStream β := ⟨f p.f0, f p.f1⟩

def PerZone.get {α : Type} (p : PerZone α) : Zone → α
  | .cabin => p.cabin
  | .phonesL => p.phonesL
  | .phonesR => p.phonesR

def PerZone.update {α : Type} (p : PerZone α) (z : Zone) (f : α → α) : PerZone α :=
  match z with
  | .cabin => { p with cabin := f p.cabin }
  | .phonesL => { p with phonesL := f p.phonesL }
  | .phonesR => { p with phonesR := f p.phonesR }

def PerZone.map {α β : Type} (f : α → β) (p : PerZone α) : PerZone β := ⟨f p.cabin, f p.phonesL, f p.phonesR⟩

def PerClient.get {α : Type} (p : PerClient α) : Client → α
  | .front => p.front
  | .rearL => p.rearL
  | .rearR => p.rearR
  | .twin => p.twin
  | .storeWriter => p.storeWriter
  | .audio => p.audio
  | .poller => p.poller

def PerClient.update {α : Type} (p : PerClient α) (c : Client) (f : α → α) : PerClient α :=
  match c with
  | .front => { p with front := f p.front }
  | .rearL => { p with rearL := f p.rearL }
  | .rearR => { p with rearR := f p.rearR }
  | .twin => { p with twin := f p.twin }
  | .storeWriter => { p with storeWriter := f p.storeWriter }
  | .audio => { p with audio := f p.audio }
  | .poller => { p with poller := f p.poller }

/-- The six routes in the order of R104. -/
def allRoutes : List Route :=
  [⟨.f0, .cabin⟩, ⟨.f0, .phonesL⟩, ⟨.f0, .phonesR⟩, ⟨.f1, .cabin⟩, ⟨.f1, .phonesL⟩, ⟨.f1, .phonesR⟩]

/-- A display's number in records and codes. DESIGN CHOICE: also as the place of an AREA_FAULT (R194, log 61). -/
def displayIndex : Display → Nat
  | .front => 0
  | .rearL => 1
  | .rearR => 2

/-! ## The blocks of the state -/

def State.composer (s : State) (d : Display) : Composer := s.composers.get d

def State.onComposer (d : Display) (f : Composer → Composer) (s : State) : State :=
  { s with composers := s.composers.update d f }

def State.stream (s : State) (st : Stream) : Film := s.film.get st

def State.onStream (st : Stream) (f : Film → Film) (s : State) : State := { s with film := s.film.update st f }

def State.route (s : State) (r : Route) : RouteState := (s.mixer.routes.get r.stream).get r.zone

def State.onRoute (r : Route) (f : RouteState → RouteState) (s : State) : State :=
  { s with mixer := { s.mixer with routes := s.mixer.routes.update r.stream fun p => p.update r.zone f } }

def State.onPort (f : Port → Port) (s : State) : State := { s with port := f s.port }

def State.onNotice (f : Notice → Notice) (s : State) : State := { s with notice := f s.notice }

def State.onArbiter (f : Arbiter → Arbiter) (s : State) : State := { s with arbiter := f s.arbiter }

def State.onPoller (f : Poller → Poller) (s : State) : State := { s with poller := f s.poller }

def State.onCapture (f : Capture → Capture) (s : State) : State := { s with capture := f s.capture }

def State.onGuide (f : Guide → Guide) (s : State) : State := { s with guide := f s.guide }

def State.onMixer (f : Mixer → Mixer) (s : State) : State := { s with mixer := f s.mixer }

def State.onChime (f : ChimeEngine → ChimeEngine) (s : State) : State := { s with chime := f s.chime }

def State.onReverse (f : Reverse → Reverse) (s : State) : State := { s with reverse := f s.reverse }

/-- The area base: AREA_HI then AREA_LO (R177). -/
def Port.base (p : Port) : Addr := p.areaHi ++ p.areaLo

/-- The host address of an offset of the common area. -/
def State.areaAddr (s : State) (offset : Nat) : Addr := s.port.base + BitVec.ofNat 64 offset

/-! ## Bytes written to host memory

An address the part has written holds its last byte; at any other the part has written nothing, so a read of it answers
none (log 6). The list rises strictly by address. -/

/-- The canonical form: addresses strictly rising. -/
abbrev Memory.wf (m : Memory) : Prop := m.Pairwise fun a b => a.1 < b.1

/-- The byte the part last wrote at an address, none where it has written nothing. -/
def Memory.read : Memory → Nat → Option Byte
  | [], _ => none
  | (k, v) :: rest, a => if k = a then some v else Memory.read rest a

/-- Write one byte, keeping the canonical form. -/
def Memory.put : Memory → Nat → Byte → Memory
  | [], a, b => [(a, b)]
  | (k, v) :: rest, a, b =>
    if a < k then (a, b) :: (k, v) :: rest
    else if a = k then (a, b) :: rest
    else (k, v) :: Memory.put rest a b

/-- Write a run of bytes at an address, which wraps at 2^64. -/
def Memory.write (m : Memory) (a : Addr) : List Byte → Memory
  | [] => m
  | b :: rest => Memory.write (m.put a.toNat b) (a + 1) rest

/-! ## The poller's order (R170) -/

/-- Make a poller read, at the end of the order. -/
def makeRead (what : ReadOf) (addr : Addr) (length : Nat) (s : State) : State :=
  s.onPoller fun p => { p with order := p.order ++ [⟨.poller, addr, .read what length⟩] }

/-- Whether a request is the status write of a given field. -/
def isStatusWriteOf (offset : Nat) (r : Request) : Bool :=
  match r.work with
  | .status o _ => o == offset
  | _ => false

/-- Put a status write into an order: in place of a waiting write of the same field, otherwise at the end. -/
def placeStatusWrite (w : Request) (offset : Nat) (order : List Request) : List Request :=
  if order.any (isStatusWriteOf offset) then order.map fun r => if isStatusWriteOf offset r then w else r
  else order ++ [w]

/-- Whether a request is the status write of one of some fields. -/
def isStatusWriteIn (offsets : List Nat) (r : Request) : Bool := offsets.any fun o => isStatusWriteOf o r

/-- The requests of an order up to the last that writes one of some fields, and those behind it. -/
def splitAtLast (offsets : List Nat) (order : List Request) : List Request × List Request :=
  let other := fun r => !isStatusWriteIn offsets r
  ((order.reverse.dropWhile other).reverse, (order.reverse.takeWhile other).reverse)

/-- Put a count's write into an order, behind the writes of the data it counts (R170): in place of a waiting write of it,
and otherwise at the end. Where data of its event stand behind that place, the waiting writes of the fields in `lower` up
to the last of that data go ahead of it, in their order; the count and every other request keep their places (log 40). -/
def placeCountWrite (lower data : List Nat) (w : Request) (offset : Nat) (order : List Request) : List Request :=
  match order.dropWhile fun r => !isStatusWriteOf offset r with
  | [] => order ++ [w]
  | _ :: rest =>
    let ahead := order.takeWhile fun r => !isStatusWriteOf offset r
    let s := splitAtLast data rest
    ahead ++ s.1.filter (isStatusWriteIn lower) ++ w :: s.1.filter (fun r => !isStatusWriteIn lower r) ++ s.2

/-- The write of a status field at an offset of the common area. -/
def State.statusWrite (s : State) (offset : Nat) (bytes : List Byte) : Request :=
  ⟨.poller, s.areaAddr offset, .status offset bytes⟩

/-- Make the write of a status field. -/
def makeStatusWrite (offset : Nat) (bytes : List Byte) (s : State) : State :=
  s.onPoller fun p => { p with order := placeStatusWrite (s.statusWrite offset bytes) offset p.order }

/-- Make the write of a count whose event has made the writes of `data`; `lower` are the fields that may go ahead of it. -/
def makeCountWrite (lower data : List Nat) (offset : Nat) (bytes : List Byte) (s : State) : State :=
  s.onPoller fun p => { p with order := placeCountWrite lower data (s.statusWrite offset bytes) offset p.order }

/-- The command in progress writes the fields at some offsets whether or not their values change, as their chapter says
(R5, R28, R33, R37, R51, R80, R101, R145, R194); while DETACHED nothing is written. -/
def noteWritten (offsets : List Nat) (s : State) : State :=
  if s.port.attached then s.onPoller fun p => { p with written := p.written ++ offsets } else s

/-- Whether a request reads a given thing. -/
def Request.reads (r : Request) (what : ReadOf) : Bool :=
  match r.work with
  | .read w _ => w == what
  | _ => false

/-- Whether a read has been made and has not ended: it waits in the order or is outstanding (R186, log 7). -/
def State.reading (s : State) (what : ReadOf) : Bool :=
  s.poller.order.any (·.reads what) || s.arbiter.outstanding.any fun i => i.live && i.request.reads what

/-- Make a polled read unless the last one of the same word has not ended (R186). -/
def pollRead (what : ReadOf) (offset length : Nat) (s : State) : State :=
  if s.reading what then s else makeRead what (s.areaAddr offset) length s

/-! ## Asks (R187, R188) -/

/-- An ask as a slot holds it. -/
structure Ask where
  sequence : Word
  code : Word
  params : List Word
deriving DecidableEq, Repr

def noSlot : AskSlot := ⟨0, none, 0, .empty, 0⟩

def State.slot (s : State) (n : Nat) : AskSlot := s.poller.slots.getD n noSlot

def State.onSlot (n : Nat) (f : AskSlot → AskSlot) (s : State) : State :=
  s.onPoller fun p => { p with slots := setAt p.slots n f }

/-- The parameter words of an ask; a word not given is 0. -/
def Ask.param (a : Ask) (i : Nat) : Word := a.params.getD i 0

/-- Whether any parameter word from the i-th on is nonzero. -/
def Ask.anyFrom (a : Ask) (i : Nat) : Bool := (a.params.drop i).any (· != 0)

/-- The slot of a stream's asks. -/
def streamSlot : Stream → Nat
  | .f0 => 0
  | .f1 => 1

/-- The slot of a display's asks. -/
def displaySlot : Display → Nat
  | .front => 3
  | .rearL => 4
  | .rearR => 5

/-! ## What the camera is needed for, and the wanted FRONT mode -/

/-- Stores are in use while ATTACHED with store addresses kept (R67). -/
def State.storesInUse (s : State) : Bool := s.port.attached && s.capture.record.stores.isSome

/-- The camera is needed while the asked-on mark counts or the reverse view holds it (R57). -/
def State.cameraNeeded (s : State) : Bool := (s.capture.askedOn && !s.port.quiet) || s.capture.hold

/-- The wanted mode of FRONT (R154). -/
def State.wantedMode (s : State) : FrontMode :=
  match s.reverse.view with
  | .off => .normal
  | .waking => if s.storesInUse then .normal else .direct
  | .showing => if s.storesInUse && s.capture.published.isSome then .reverse else .direct
  | .unavailable => if s.storesInUse && s.capture.published.isSome then .reverse else .direct
  | .linger => if s.storesInUse && s.capture.published.isSome then .reverse else .direct

/-- The leave mark follows the wanted mode while FRONT is in DIRECT (R161). -/
def refreshLeave (s : State) : State :=
  { s with frontView := { s.frontView with
      leave := s.frontView.mode == .direct && s.wantedMode != .direct } }

/-- Whether REAR_R is paired: its current timing has the pair flag set (R4). -/
def State.paired (s : State) : Bool := s.composers.rearR.timing.pair

/-- The timing a display's output follows: a paired REAR_R has REAR_L's sizes and totals and its own lead (R4). -/
def State.timing (s : State) (d : Display) : Timing :=
  match d with
  | .front => s.composers.front.timing
  | .rearL => s.composers.rearL.timing
  | .rearR =>
    if s.composers.rearR.timing.pair then
      { s.composers.rearL.timing with lead := s.composers.rearR.timing.lead, pair := true }
    else s.composers.rearR.timing

end Sys2Proof.Machine
end

