-- ==== Sys2Proof/Machine/Flags.lean ====
section
/-! DEFINITION. The notice unit's operations (chapter 10): setting a flag, the message mark, the last area fault record,
and writes to CAUSE and MASK. -/

namespace Sys2Proof.Machine

/-- The bit place of a flag in CAUSE and MASK (R201). -/
def Flag.bit : Flag → Nat
  | .askAnswered => 0
  | .filmEvent => 1
  | .chimeDone => 2
  | .cameraChange => 3
  | .reverseChange => 4
  | .areaFault => 5
  | .linkFault => 6
  | .audioClip => 7

/-- A setting event of a flag (R190, R191, R193): the flag is set, its notice count advances, and a message is asked for
when the flag was clear and its enable is set. -/
def setFlag (f : Flag) (s : State) : State :=
  s.onNotice fun n =>
    { n with
      cause := n.cause ||| (1#8 <<< f.bit)
      message := n.message || (!n.cause.getLsbD f.bit && n.mask.getLsbD f.bit)
      counts := setAt n.counts f.bit (· + 1) }

/-- The three fields of the last area fault record in the area status (R200). -/
def areaFaultOffsets : List Nat := [0x8040, 0x8044, 0x8048]

/-- A setting event of AREA_FAULT writes its record (R194). -/
def areaFault (kind : AreaFaultKind) (place : Word) (s : State) : State :=
  noteWritten areaFaultOffsets
    (setFlag .areaFault (s.onNotice fun n => { n with lastFault := some ⟨kind, place, s.port.blockCount⟩ }))

/-- A host write to CAUSE clears each flag written as one (R190). -/
def clearFlags (value : Word) (n : Notice) : Notice :=
  { n with cause := n.cause &&& ~~~(value.extractLsb' 0 8) }

/-- A host write to MASK replaces the enables, and asks for a message when an enable goes from clear to set while its
flag is set (R191). -/
def writeMask (value : Word) (n : Notice) : Notice :=
  let new : Byte := value.extractLsb' 0 8
  { n with
    mask := new
    message := n.message || (new &&& ~~~n.mask &&& n.cause) != 0 }

/-- The code of an ask's result is written into the slot's answer record with the block count of the moment; a result
that is not empty sets ASK_ANSWERED (R188). -/
def writeResult (n : Nat) (r : AskResult) (s : State) : State :=
  let s := s.onSlot n fun a => { a with result := r, blockCount := s.port.blockCount }
  if r = .empty then s else setFlag .askAnswered s

/-- An ask is taken: its sequence becomes the last taken and the answered one (R187), with its result, empty when it is
not yet decided (R188). -/
def takeAsk (n : Nat) (sequence : Word) (r : AskResult) (s : State) : State :=
  writeResult n r (s.onSlot n fun a => { a with lastTaken := sequence, answered := sequence, reading := none })

end Sys2Proof.Machine
end

