-- ==== Sys2Proof/Machine/Operands.lean ====
section
/-! DEFINITION. The operands of the commands as host records: each record's fields at the offsets of chapter 11 (R197,
R198) and the checks the owning chapters make of them. -/

namespace Sys2Proof.Machine

/-! ## Area header (11.2) -/

/-- The region map of 9.3 without the header, in order: offset and size. -/
def regionMap : List (Nat × Nat) :=
  [(0x0100, 384), (0x0400, 256), (0x0500, 256), (0x0600, 256), (0x0700, 256), (0x0800, 768), (0x1000, 6144),
   (0x2800, 256), (0x3000, 2048), (0x3800, 2048), (0x4000, 512), (0x5000, 2048), (0x8000, 32768)]

/-- Whether the region table from an offset on repeats the map (R179). -/
def tableMatches (bytes : List Byte) : Nat → List (Nat × Nat) → Bool
  | _, [] => true
  | o, (off, size) :: rest =>
    wordAt bytes o == wordOfNat off && wordAt bytes (o + 4) == wordOfNat size && tableMatches bytes (o + 8) rest

/-- A good header: layout version 1 and the region map (R179). -/
def headerGood (bytes : List Byte) : Bool := wordAt bytes 0 == 1 && tableMatches bytes 0x10 regionMap

/-! ## Ask slots (11.2) -/

/-- The ask at an offset of the ask board. -/
def askAt (bytes : List Byte) (o : Nat) : Ask :=
  ⟨wordAt bytes o, wordAt bytes (o + 4),
   (List.range 6).map fun i => wordAt bytes (o + 8 + 4 * i)⟩

/-! ## Display timing record (11.3, R2) -/

/-- The record's fields. -/
def timingOf (bytes : List Byte) : Timing :=
  ⟨(halfAt bytes 0).toNat, (halfAt bytes 2).toNat, (halfAt bytes 4).toNat, (halfAt bytes 6).toNat,
   (byteAt bytes 8).toNat, (wordAt bytes 0xC).toNat, byteAt bytes 9 == 1⟩

/-- A valid timing record (R2, R198). -/
def timingValid (d : Display) (bytes : List Byte) : Bool :=
  let t := timingOf bytes
  let pair := byteAt bytes 9
  decide (t.divider ≤ 15) &&
  decide (16 ≤ t.activeW) && decide (t.activeW ≤ 1920) && decide (16 ≤ t.activeH) && decide (t.activeH ≤ 1080) &&
  decide (t.activeW + 16 ≤ t.totalW) && decide (t.activeH + 16 ≤ t.totalH) &&
  decide (t.totalW ≤ 4095) && decide (t.totalH ≤ 4095) && decide (t.lead ≤ 4800) &&
  (pair == 0 || (d == .rearR && pair == 1))

/-- The frame rate of a timing, in frames per second as a ratio (R1). -/
def frameRate (t : Timing) : Nat × Nat := (297000000, (t.divider + 1) * t.totalW * t.totalH)

/-! ## Scene banks and layer entries (11.3, R11 to R13, R198) -/

/-- The bytes of a pixel of a PICTURE format code. -/
def pictureBytes (format : Byte) : Nat := if format = 0 then 4 else 2

/-- The entry at an offset. -/
def entryAt (bytes : List Byte) (o : Nat) : Entry :=
  let kind := byteAt bytes o
  let body : EntryBody :=
    if kind = 0 then .none
    else if kind = 1 then
      .fill (byteAt bytes (o + 0xF)) (byteAt bytes (o + 0xE)) (byteAt bytes (o + 0xD)) (byteAt bytes (o + 0xC))
    else if kind = 2 then
      .picture (addrAt bytes (o + 0x10)) (wordAt bytes (o + 0x18)) (byteAt bytes (o + 0x1C))
        (halfAt bytes (o + 0x20)) (halfAt bytes (o + 0x22)) (halfAt bytes (o + 0x24)) (halfAt bytes (o + 0x26))
    else if kind = 3 then .film (byteAt bytes (o + 0x10)) (byteAt bytes (o + 0x11))
    else if kind = 4 then .camera
    else .unknown kind
  { z := (byteAt bytes (o + 1)).toNat % 8
    opacity := (byteAt bytes (o + 2)).toNat
    rect := ⟨signed13 (halfAt bytes (o + 4)), signed13 (halfAt bytes (o + 6)),
      (halfAt bytes (o + 8)).toNat, (halfAt bytes (o + 0xA)).toNat⟩
    body := body
    bad := false }

/-- The part of a rectangle inside another. -/
def Rect.clip (r c : Rect) : Rect :=
  let x0 := max r.x c.x
  let y0 := max r.y c.y
  let x1 := min (r.x + r.w) (c.x + c.w)
  let y1 := min (r.y + r.h) (c.y + c.h)
  ⟨x0, y0, (x1 - x0).toNat, (y1 - y0).toNat⟩

def Rect.empty (r : Rect) : Bool := r.w == 0 || r.h == 0

/-- The active area of a timing. -/
def Timing.area (t : Timing) : Rect := ⟨0, 0, t.activeW, t.activeH⟩

/-- The scale limits on one axis (R13): a source of size S into a destination of size D. -/
def scaleOk (size dest : Nat) : Bool := decide (size ≤ 4 * dest) && decide (dest ≤ 8 * size)

/-- Whether a rectangle is larger than an entry's may be (R198). -/
def rectLarge (r : Rect) : Bool := decide (4096 < r.w) || decide (4096 < r.h)

/-- Whether an entry of a kind other than CAMERA has a size it may not have (R12, R198). -/
def rectBad (area : Rect) (r : Rect) : Bool := (r.clip area).empty || rectLarge r

/-- Whether a PICTURE's own fields are bad (R12, R13). -/
def pictureBad (addr : Addr) (pitch : Word) (format : Byte) (sx sw sh : Half) (r : Rect) : Bool :=
  decide (3 ≤ format.toNat) || sw == 0 || sh == 0 ||
  decide (addr.toNat % 4 ≠ 0) || decide (pitch.toNat % 4 ≠ 0) ||
  decide (pitch.toNat < (sx.toNat + sw.toNat) * pictureBytes format) ||
  (format == 2 && (decide (sx.toNat % 2 = 1) || decide (sw.toNat % 2 = 1))) ||
  !scaleOk sw.toNat r.w || !scaleOk sh.toNat r.h

/-- Whether an entry is bad for a display with a given active area (R12). A NONE entry is bad for its size alone, which R198
sets for every kind except CAMERA (R11, log 8). -/
def entryIsBad (d : Display) (area : Rect) (e : Entry) : Bool :=
  match e.body with
  | .none => rectLarge e.rect
  | .fill _ _ _ _ => rectBad area e.rect
  | .picture a p f sx _ sw sh => rectBad area e.rect || pictureBad a p f sx sw sh e.rect
  | .film st fit => rectBad area e.rect || decide (2 ≤ st.toNat) || decide (2 ≤ fit.toNat)
  | .camera => d != .front
  | .unknown _ => true

/-- The n entries of a bank's entry bytes, checked for a display (R8). -/
def checkedEntries (d : Display) (area : Rect) (bytes : List Byte) (n : Nat) : List Entry :=
  (List.range n).map fun p =>
    let e := entryAt bytes (64 * p)
    { e with bad := entryIsBad d area e }

/-- The number of bad entries of a list. -/
def badCount (l : List Entry) : Nat := (l.filter (·.bad)).length

/-- The stream a FILM entry's code names. -/
def streamOf (code : Byte) : Stream := if code = 0 then .f0 else .f1

/-! ## Film cards (11.4, R35, R36) -/

/-- The frame card in a slot's bytes, as card `index`. -/
def frameCardOf (bytes : List Byte) (index : Word) : FrameCard :=
  ⟨index, addrAt bytes 0, wordAt bytes 8, halfAt bytes 0xC, halfAt bytes 0xE, byteAt bytes 0x10, wordAt bytes 0x14,
   wordAt bytes 0x18, wordAt bytes 0x1C, false, false⟩

/-- The bytes of a pixel of a frame card format code: 0 YUYV, 1 ARGB8888. -/
def cardBytes (format : Byte) : Nat := if format = 0 then 2 else 4

/-- A good frame card (R35). -/
def frameCardGood (c : FrameCard) : Bool :=
  decide (16 ≤ c.width.toNat) && decide (c.width.toNat ≤ 1920) &&
  decide (16 ≤ c.height.toNat) && decide (c.height.toNat ≤ 1080) &&
  decide (c.format.toNat ≤ 1) && (c.format != 0 || decide (c.width.toNat % 2 = 0)) &&
  decide (c.addr.toNat % 4 = 0) && decide (c.pitch.toNat % 4 = 0) &&
  decide (c.width.toNat * cardBytes c.format ≤ c.pitch.toNat) &&
  decide (1 ≤ c.duration.toNat) && decide (c.duration.toNat ≤ 48000)

/-- The sound card in a slot's bytes, as card `index`. -/
def soundCardOf (bytes : List Byte) (index : Word) : SoundCard :=
  ⟨index, addrAt bytes 0, wordAt bytes 8, wordAt bytes 0xC, false, false⟩

/-- A good sound card (R36). -/
def soundCardGood (c : SoundCard) : Bool :=
  decide (1 ≤ c.count.toNat) && decide (c.count.toNat ≤ 4096) && decide (c.addr.toNat % 4 = 0)

/-! ## Chime cards (11.5, R123) -/

/-- The chime card at an offset. -/
def chimeCardAt (bytes : List Byte) (o : Nat) : ChimeCard :=
  { sequence := wordAt bytes o
    ask := byteAt bytes (o + 4)
    cls := byteAt bytes (o + 5)
    source := byteAt bytes (o + 6)
    level := byteAt bytes (o + 7)
    frequency := halfAt bytes (o + 8)
    onTime := halfAt bytes (o + 0xA)
    offTime := halfAt bytes (o + 0xC)
    repeats := byteAt bytes (o + 0xE)
    phonesL := byteAt bytes (o + 0xF)
    phonesR := byteAt bytes (o + 0x10)
    clipAddress := addrAt bytes (o + 0x18)
    clipCount := wordAt bytes (o + 0x20) }

/-- Whether a PLAY is refused (R123). -/
def playRefused (c : ChimeCard) : Bool :=
  decide (4 ≤ c.cls.toNat) || decide (2 ≤ c.source.toNat) ||
  (c.source == 0 && (decide (c.frequency.toNat < 200) || decide (4000 < c.frequency.toNat) ||
    decide (c.onTime.toNat < 20) || decide (2000 < c.onTime.toNat) || decide (2000 < c.offTime.toNat))) ||
  (c.source == 1 && (decide (c.clipAddress.toNat % 2 = 1) || c.clipCount == 0 ||
    decide (96000 < c.clipCount.toNat))) ||
  (decide (160 < c.level.toNat) && c.level != 255) ||
  c.repeats == 0 || decide (2 ≤ c.phonesL.toNat) || decide (2 ≤ c.phonesR.toNat)

/-- What a card that is not refused plays. -/
def programOf (c : ChimeCard) : ChimeProgram :=
  if c.source = 0 then .tone c.frequency.toNat c.onTime.toNat c.offTime.toNat
  else .clip c.clipAddress c.clipCount.toNat

/-! ## Vehicle record (11.6, R81) -/

/-- A distance: 0..5000 as it stands, anything else no echo. -/
def distanceOf (h : Half) : Option Nat := if h.toNat ≤ 5000 then some h.toNat else none

/-- The sample a vehicle record gives: the angle limited to −7800..7800 and the four distances. -/
def sampleOf (bytes : List Byte) : Sample :=
  ⟨clampInt (-7800) 7800 (signed16 (halfAt bytes 4)), distanceOf (halfAt bytes 8), distanceOf (halfAt bytes 0xA),
   distanceOf (halfAt bytes 0xC), distanceOf (halfAt bytes 0xE)⟩

/-- The smaller of two distances that may be none. -/
def nearer : Option Nat → Option Nat → Option Nat
  | none, b => b
  | some a, none => some a
  | some a, some b => some (min a b)

/-- The nearest distance D of a sample (R83). -/
def Sample.nearest (v : Sample) : Option Nat := nearer (nearer v.d0 v.d1) (nearer v.d2 v.d3)

/-! ## Camera record (11.6, R76, R199) -/

/-- The three store address fields. -/
def storeFields (bytes : List Byte) : Stores := ⟨addrAt bytes 8, addrAt bytes 0x10, addrAt bytes 0x18⟩

/-- The record's fields; three addresses of 0 hold no store addresses (R199). -/
def cameraRecordOf (bytes : List Byte) : CameraRecord :=
  let st := storeFields bytes
  { width := (halfAt bytes 0).toNat
    height := (halfAt bytes 2).toNat
    wide := byteAt bytes 4 == 1
    stores := if st.s0 = 0 ∧ st.s1 = 0 ∧ st.s2 = 0 then none else some st
    decimation := (byteAt bytes 5).toNat
    threshold := (byteAt bytes 6).toNat
    viewX := (halfAt bytes 0x20).toNat
    viewY := (halfAt bytes 0x22).toNat
    viewW := (halfAt bytes 0x24).toNat
    viewH := (halfAt bytes 0x26).toNat
    strip := (halfAt bytes 0x28).toNat
    deadline := (halfAt bytes 0x2A).toNat
    linger := (halfAt bytes 0x2C).toNat }

/-- The bytes of a stored pixel: 2 for PACKED16, 4 for WIDE32 (3.6). -/
def CameraRecord.pixelBytes (r : CameraRecord) : Nat := if r.wide then 4 else 2

/-- The pitch of a store (3.6). -/
def CameraRecord.pitch (r : CameraRecord) : Nat := r.width * r.pixelBytes

/-- The size of a store (3.6). -/
def CameraRecord.storeSize (r : CameraRecord) : Nat := r.height * r.pitch

/-- The camera view rectangle. -/
def CameraRecord.view (r : CameraRecord) : Rect := ⟨r.viewX, r.viewY, r.viewW, r.viewH⟩

/-- Whether two regions of host memory have no byte in common. DESIGN CHOICE: a region that passes the last address does
not meet those at address 0 (R76, log 56). -/
def apart (a : Nat) (na : Nat) (b : Nat) (nb : Nat) : Bool := decide (a + na ≤ b) || decide (b + nb ≤ a)

/-- The address checks of R76; a store at address 0 fails, since then some but not all are 0 (R199). -/
def storesValid (base : Addr) (size : Nat) (st : Stores) : Bool :=
  let ok := fun (a : Addr) => a != 0 && decide (a.toNat % 256 = 0) && apart a.toNat size base.toNat 65536
  ok st.s0 && ok st.s1 && ok st.s2 &&
  apart st.s0.toNat size st.s1.toNat size && apart st.s0.toNat size st.s2.toNat size &&
  apart st.s1.toNat size st.s2.toNat size

/-- A valid camera record (R76, R199). -/
def cameraRecordValid (base : Addr) (area : Rect) (bytes : List Byte) : Bool :=
  let r := cameraRecordOf bytes
  decide (320 ≤ r.width) && decide (r.width ≤ 1280) && decide (240 ≤ r.height) && decide (r.height ≤ 800) &&
  decide (r.width % 2 = 0) && decide (r.height % 2 = 0) && decide ((byteAt bytes 4).toNat ≤ 1) &&
  (match r.stores with
   | none => true
   | some st => storesValid base r.storeSize st) &&
  decide (r.decimation ≤ 3) && decide (r.threshold ≤ 63) &&
  decide (1 ≤ r.viewW) && decide (1 ≤ r.viewH) &&
  decide (r.viewX + r.viewW ≤ area.w) && decide (r.viewY + r.viewH ≤ area.h) &&
  scaleOk r.width r.viewW && scaleOk r.height r.viewH &&
  decide (r.strip ≤ 200) && decide (500 ≤ r.deadline) && decide (r.deadline ≤ 5000) && decide (r.linger ≤ 10000)

/-- The 48 bytes of a kept camera record in the camera record layout (R200). DESIGN CHOICE: its unused bytes are 0
(log 60). -/
def CameraRecord.bytes (r : CameraRecord) : List Byte :=
  let h := fun (n : Nat) => halfBytes (BitVec.ofNat 16 n)
  h r.width ++ h r.height ++
  [if r.wide then 1 else 0, BitVec.ofNat 8 r.decimation, BitVec.ofNat 8 r.threshold, 0] ++
  (match r.stores with
   | none => List.replicate 24 0
   | some st => addrBytes st.s0 ++ addrBytes st.s1 ++ addrBytes st.s2) ++
  h r.viewX ++ h r.viewY ++ h r.viewW ++ h r.viewH ++ h r.strip ++ h r.deadline ++ h r.linger ++ [0, 0]

/-! ## Geometry record (11.6, R85) -/

def geometryOf (bytes : List Byte) : Geometry :=
  let h := fun o => (wordAt bytes o).toInt
  { wheelbase := (halfAt bytes 0).toNat
    overhang := (halfAt bytes 2).toNat
    track := (halfAt bytes 4).toNat
    ratio := (halfAt bytes 6).toNat
    d1 := (halfAt bytes 8).toNat
    d2 := (halfAt bytes 0xA).toNat
    d3 := (halfAt bytes 0xC).toNat
    d4 := (halfAt bytes 0xE).toNat
    h11 := h 0x10, h12 := h 0x14, h13 := h 0x18
    h21 := h 0x1C, h22 := h 0x20, h23 := h 0x24
    h31 := h 0x28, h32 := h 0x2C, h33 := h 0x30 }

def inRange (lo hi x : Nat) : Bool := decide (lo ≤ x) && decide (x ≤ hi)

/-- A valid geometry record (R85). -/
def geometryValid (g : Geometry) : Bool :=
  inRange 2000 3600 g.wheelbase && inRange 500 1500 g.overhang && inRange 640 1600 g.ratio &&
  inRange 1300 1900 g.track && decide (g.track % 2 = 0) &&
  inRange 200 6000 g.d1 && inRange 200 6000 g.d2 && inRange 200 6000 g.d3 && inRange 200 6000 g.d4 &&
  decide (g.d1 < g.d2) && decide (g.d2 < g.d3) && decide (g.d3 < g.d4) && decide (1 ≤ g.h33)

/-! ## Setup script (11.7, R77) -/

/-- What reading a script's bytes gives: the bytes end inside a step, the script fails its checks, or its steps up to
the END. -/
inductive ScriptRead where
  | short
  | bad
  | steps (list : List ScriptStep)
deriving DecidableEq, Repr

/-- Put a step in front of what the rest of the script gives. -/
def ScriptRead.after (step : ScriptStep) : ScriptRead → ScriptRead
  | .steps l => .steps (step :: l)
  | r => r

/-- Read a script step by step; `fuel` is how many steps may still stand, the END counted (R77). -/
def readScript : Nat → List Byte → ScriptRead
  | 0, _ => .bad
  | fuel + 1, bytes =>
    match bytes with
    | [] => .short
    | kind :: rest =>
      if kind = 0 then .steps []
      else if kind = 1 then
        match rest with
        | dev :: lo :: hi :: count :: more =>
          if 127 < dev.toNat ∨ count.toNat = 0 ∨ 16 < count.toNat then .bad
          else if more.length < count.toNat then .short
          else (readScript fuel (more.drop count.toNat)).after (.write dev (hi ++ lo) (more.take count.toNat))
        | _ => .short
      else if kind = 2 then
        match rest with
        | _ :: lo :: hi :: more =>
          let d := (hi ++ lo : Half).toNat
          if d = 0 ∨ 1000 < d then .bad else (readScript fuel more).after (.wait d)
        | _ => .short
      else .bad

/-- Whether reading a script's bytes step by step reaches its END, whatever the steps hold (R75); past a step of no named
kind no step can be told from another, and none is an END. -/
def scriptEnds : Nat → List Byte → Bool
  | 0, _ => false
  | fuel + 1, bytes =>
    match bytes with
    | [] => false
    | kind :: rest =>
      if kind = 0 then true
      else if kind = 1 then
        match rest with
        | _ :: _ :: _ :: count :: more => decide (count.toNat ≤ more.length) && scriptEnds fuel (more.drop count.toNat)
        | _ => false
      else if kind = 2 then scriptEnds fuel (rest.drop 3)
      else false

/-! ## Routing record (11.6, R104) -/

def routingOf (bytes : List Byte) : Routing :=
  let r := fun o => RouteSetting.mk (byteAt bytes o) (byteAt bytes (o + 1))
  ⟨⟨⟨r 0, r 2, r 4⟩, ⟨r 6, r 8, r 10⟩⟩, ⟨byteAt bytes 0xC, byteAt bytes 0xD, byteAt bytes 0xE⟩, byteAt bytes 0xF⟩

/-- An attenuation is 0..160 or 255. -/
def attenuationOk (b : Byte) : Bool := decide (b.toNat ≤ 160) || b == 255

/-- The setting of a route in a routing record. -/
def Routing.setting (r : Routing) (x : Route) : RouteSetting := (r.routes.get x.stream).get x.zone

/-- The place of the first failed check of a list, counted from `n`; 0 when none fails. -/
def firstFailure (n : Nat) : List Bool → Nat
  | [] => 0
  | ok :: rest => if ok then firstFailure (n + 1) rest else n

/-- The checks of R104 in their order. -/
def routingChecks (r : Routing) : List Bool :=
  (allRoutes.flatMap fun x => [decide ((r.setting x).enable.toNat ≤ 1), attenuationOk (r.setting x).attenuation]) ++
  [attenuationOk r.masters.cabin, attenuationOk r.masters.phonesL, attenuationOk r.masters.phonesR,
   decide (r.duck.toNat ≤ 80)]

/-- The routing fault of a record: 0 NONE, otherwise the first failing field (R104, R200). -/
def routingFaultOf (r : Routing) : Nat := firstFailure 1 (routingChecks r)

end Sys2Proof.Machine
end

