-- ==== Sys2Proof/Machine/Tables.lean ====
section
/-! DEFINITION. The built-in tables the manual defines by formula: the tangent and sine tables of the guide line engine
(R91), the sine table of the tone generator (R134) and the gain table of the mixer (R106). Each entry was computed from
its formula outside Lean with 50 digits and rounded halves away from zero; the entries the manual prints are checked in
the tests. DEDUCED (log 5). -/

namespace Sys2Proof.Machine

/-- T[i] = round(tan(i°) × 65536), i = 0..45 (R91). -/
def tangentEntries : List Nat :=
  [0, 1144, 2289, 3435, 4583, 5734, 6888, 8047, 9210, 10380, 11556, 12739, 13930, 15130, 16340, 17560] ++
  [18792, 20036, 21294, 22566, 23853, 25157, 26478, 27818, 29179, 30560, 31964, 33392, 34846, 36327, 37837, 39378] ++
  [40951, 42560, 44205, 45889, 47615, 49385, 51202, 53070, 54991, 56970, 59009, 61113, 63287, 65536]

/-- S[i] = round(sin(i°) × 65536), i = 0..90 (R91). -/
def sineEntries : List Nat :=
  [0, 1144, 2287, 3430, 4572, 5712, 6850, 7987, 9121, 10252, 11380, 12505, 13626, 14742, 15855, 16962] ++
  [18064, 19161, 20252, 21336, 22415, 23486, 24550, 25607, 26656, 27697, 28729, 29753, 30767, 31772, 32768, 33754] ++
  [34729, 35693, 36647, 37590, 38521, 39441, 40348, 41243, 42126, 42995, 43852, 44695, 45525, 46341, 47143, 47930] ++
  [48703, 49461, 50203, 50931, 51643, 52339, 53020, 53684, 54332, 54963, 55578, 56175, 56756, 57319, 57865, 58393] ++
  [58903, 59396, 59870, 60326, 60764, 61183, 61584, 61966, 62328, 62672, 62997, 63303, 63589, 63856, 64104, 64332] ++
  [64540, 64729, 64898, 65048, 65177, 65287, 65376, 65446, 65496, 65526, 65536]

/-- W[n] = round(32767 × sin(2π × n ÷ 256)), n = 0..255 (R134). -/
def toneEntries : List Int :=
  [0, 804, 1608, 2410, 3212, 4011, 4808, 5602, 6393, 7179, 7962, 8739, 9512, 10278, 11039, 11793] ++
  [12539, 13279, 14010, 14732, 15446, 16151, 16846, 17530, 18204, 18868, 19519, 20159, 20787, 21403, 22005, 22594] ++
  [23170, 23731, 24279, 24811, 25329, 25832, 26319, 26790, 27245, 27683, 28105, 28510, 28898, 29268, 29621, 29956] ++
  [30273, 30571, 30852, 31113, 31356, 31580, 31785, 31971, 32137, 32285, 32412, 32521, 32609, 32678, 32728, 32757] ++
  [32767, 32757, 32728, 32678, 32609, 32521, 32412, 32285, 32137, 31971, 31785, 31580, 31356, 31113, 30852, 30571] ++
  [30273, 29956, 29621, 29268, 28898, 28510, 28105, 27683, 27245, 26790, 26319, 25832, 25329, 24811, 24279, 23731] ++
  [23170, 22594, 22005, 21403, 20787, 20159, 19519, 18868, 18204, 17530, 16846, 16151, 15446, 14732, 14010, 13279] ++
  [12539, 11793, 11039, 10278, 9512, 8739, 7962, 7179, 6393, 5602, 4808, 4011, 3212, 2410, 1608, 804] ++
  [0, -804, -1608, -2410, -3212, -4011, -4808, -5602, -6393, -7179, -7962, -8739, -9512, -10278, -11039, -11793] ++
  [-12539, -13279, -14010, -14732, -15446, -16151, -16846, -17530, -18204, -18868, -19519, -20159, -20787, -21403, -22005, -22594] ++
  [-23170, -23731, -24279, -24811, -25329, -25832, -26319, -26790, -27245, -27683, -28105, -28510, -28898, -29268, -29621, -29956] ++
  [-30273, -30571, -30852, -31113, -31356, -31580, -31785, -31971, -32137, -32285, -32412, -32521, -32609, -32678, -32728, -32757] ++
  [-32767, -32757, -32728, -32678, -32609, -32521, -32412, -32285, -32137, -31971, -31785, -31580, -31356, -31113, -30852, -30571] ++
  [-30273, -29956, -29621, -29268, -28898, -28510, -28105, -27683, -27245, -26790, -26319, -25832, -25329, -24811, -24279, -23731] ++
  [-23170, -22594, -22005, -21403, -20787, -20159, -19519, -18868, -18204, -17530, -16846, -16151, -15446, -14732, -14010, -13279] ++
  [-12539, -11793, -11039, -10278, -9512, -8739, -7962, -7179, -6393, -5602, -4808, -4011, -3212, -2410, -1608, -804]

/-- round(32768 × 10^(−a ÷ 40)), a = 0..160 (R106). -/
def gainEntries : List Nat :=
  [32768, 30935, 29205, 27571, 26029, 24573, 23198, 21900, 20675, 19519, 18427, 17396, 16423, 15504, 14637, 13818] ++
  [13045, 12315, 11627, 10976, 10362, 9783, 9235, 8719, 8231, 7771, 7336, 6925, 6538, 6172, 5827, 5501] ++
  [5193, 4903, 4629, 4370, 4125, 3894, 3677, 3471, 3277, 3093, 2920, 2757, 2603, 2457, 2320, 2190] ++
  [2068, 1952, 1843, 1740, 1642, 1550, 1464, 1382, 1305, 1232, 1163, 1098, 1036, 978, 924, 872] ++
  [823, 777, 734, 693, 654, 617, 583, 550, 519, 490, 463, 437, 413, 389, 368, 347] ++
  [328, 309, 292, 276, 260, 246, 232, 219, 207, 195, 184, 174, 164, 155, 146, 138] ++
  [130, 123, 116, 110, 104, 98, 92, 87, 82, 78, 73, 69, 65, 62, 58, 55] ++
  [52, 49, 46, 44, 41, 39, 37, 35, 33, 31, 29, 28, 26, 25, 23, 22] ++
  [21, 20, 18, 17, 16, 16, 15, 14, 13, 12, 12, 11, 10, 10, 9, 9] ++
  [8, 8, 7, 7, 7, 6, 6, 6, 5, 5, 5, 4, 4, 4, 4, 3] ++
  [3]

/-- T[i]; the last index is 45. -/
def tangentEntry (i : Nat) : Nat := tangentEntries.getD i 65536

/-- S[i]; the last index is 90. -/
def sineEntry (i : Nat) : Nat := sineEntries.getD i 65536

/-- W[n]. -/
def toneEntry (n : Nat) : Int := toneEntries.getD n 0

/-- The gain of a total attenuation in half decibels: 0 above 160, and so for the mute code 255 (R106, R136). -/
def gainOf (a : Nat) : Nat := gainEntries.getD a 0

/-- A table read at an angle in 0.01° by interpolation (R91): past the last index the value is the last entry. -/
def interpolate (entry : Nat → Nat) (last a : Nat) : Nat :=
  if a / 100 < last then
    entry (a / 100) + ((entry (a / 100 + 1) - entry (a / 100)) * (a % 100) + 50) / 100
  else entry last

/-- The tangent table at a road wheel angle (R91). -/
def tangentAt (a : Nat) : Nat := interpolate tangentEntry 45 a

/-- The sine table at a turned angle (R93). -/
def sineAt (a : Nat) : Nat := interpolate sineEntry 90 a

end Sys2Proof.Machine
end

