-- ==== Sys2Proof/Machine/Mixer.lean ====
section
/-! DEFINITION. The mixer (chapter 5): levels and target gains, host changes, ramps, the inputs applied at block starts,
the routing record, the mixing arithmetic, and the mixer's part in QUIET, WAKE and DETACH. -/

namespace Sys2Proof.Machine

/-! ## Levels and targets -/

/-- The host level a routing gives a route (R105); none is MUTE. -/
def hostLevel (t : Routing) (r : Route) : Option Nat :=
  let x := t.setting r
  let m := t.masters.get r.zone
  if x.enable = 0 ∨ x.attenuation = 255 ∨ m = 255 then none else some (x.attenuation.toNat + m.toNat)

/-- The applied duck depth of a route (R106). -/
def appliedDuck (m : Mixer) (zone : Zone) (rs : RouteState) : Nat :=
  if zone = .cabin ∧ m.duckApplied then rs.duck else 0

/-- The target gain of a route (R106). -/
def targetGain (m : Mixer) (zone : Zone) (rs : RouteState) : Nat :=
  match rs.level with
  | none => 0
  | some l =>
    if (zone = .cabin ∧ m.muteApplied) ∨ m.quietMute then 0 else gainOf (l + appliedDuck m zone rs)

/-- Put a new target in force: a ramp from the gain last used starts unless the target is the one already in force
(R106, R109). -/
def RouteState.aim (rs : RouteState) (t : Nat) : RouteState :=
  if t = rs.target then rs else { rs with target := t, ramp := some ⟨rs.gain, t, 0⟩ }

/-- Compute a route's target again (R106). -/
def retarget (r : Route) (s : State) : State :=
  s.onRoute r fun rs => rs.aim (targetGain s.mixer r.zone rs)

/-- Compute every route's target again. -/
def retargetAll (s : State) : State := allRoutes.foldl (fun s r => retarget r s) s

/-! ## Host changes (R107, R108) -/

/-- Whether a change's duck depth differs from a route's. -/
def duckDiffers (duck : Option Nat) (rs : RouteState) : Bool :=
  match duck with
  | none => false
  | some d => d != rs.duck

/-- A route receives a host change with a level and, when it carries one, a duck depth (R107). -/
def RouteState.receive (rs : RouteState) (level duck : Option Nat) : RouteState :=
  match rs.pending with
  | none =>
    if level ≠ rs.level ∨ duckDiffers duck rs then { rs with pending := some ⟨level, duck, 960⟩ } else rs
  | some p =>
    let duck := match duck with | some d => some d | none => p.duck
    if level = rs.level ∧ duckDiffers duck rs = false then { rs with pending := none }
    else { rs with pending := some ⟨level, duck, p.wait⟩ }

/-- The pending change becomes the route's level and duck depth (R108). -/
def RouteState.settle (rs : RouteState) : RouteState :=
  match rs.pending with
  | none => rs
  | some p => { rs with level := p.level, duck := p.duck.getD rs.duck, pending := none }

/-- The application of a route's pending change, with the target computed again (R108). -/
def applyHostChange (r : Route) (s : State) : State :=
  if (s.route r).pending.isNone then s else retarget r (s.onRoute r RouteState.settle)

/-! ## The routing record (R103 to R105, R117) -/

/-- What a record taken in place of another does to one route (R103, R105). -/
def RouteState.takeSetting (rs : RouteState) (old new : Routing) (r : Route) (ducked : Bool) : RouteState :=
  let duckNew := decide (old.duck ≠ new.duck)
  let carries := duckNew && r.zone == .cabin && ducked
  let rs := if duckNew && !carries then { rs with duck := new.duck.toNat } else rs
  if hostLevel old r ≠ hostLevel new r ∨ carries then
    rs.receive (hostLevel new r) (if carries then some new.duck.toNat else none)
  else rs

/-- A changed and valid record becomes the last copy and the taken routing (R103). -/
def takeRouting (new : Routing) (s : State) : State :=
  let old := s.mixer.taken
  let ducked := s.mixer.duckApplied
  let s := s.onMixer fun m => { m with taken := new, lastCopy := some (new, true), routingFault := 0 }
  allRoutes.foldl (fun s r => s.onRoute r fun rs => rs.takeSetting old new r ducked) s

/-- A word of the mixer status is written at its event, which R193 asks for where the event sets a flag; at block ends
the other changes follow (R121). -/
def writeWord (place : Nat) (value : Word) (shown : List Word) : List Word := setAt shown place fun _ => value

/-- The place of a zone's clip count among the words of the mixer status. -/
def clipPlace : Zone → Nat
  | .cabin => 49
  | .phonesL => 50
  | .phonesR => 51

/-- A changed record that is not valid (R103): the routing fault is written before the flag of the event is set, AREA_FAULT
or the ASK_ANSWERED of a MIXER_SET (R193). A MIXER_SET neither counts the record nor sets AREA_FAULT (R117). -/
def refuseRouting (new : Routing) (polled : Bool) (s : State) : State :=
  let f := routingFaultOf new
  let s := s.onMixer fun m =>
    { m with lastCopy := some (new, false), routingFault := f, shown := writeWord 52 (wordOfNat f) m.shown }
  if polled then
    areaFault .routing (wordOfNat f) (s.onMixer fun m =>
      { m with refusals := m.refusals + 1, shown := writeWord 53 (m.refusals + 1) m.shown })
  else s

/-- A routing record handed to the mixer (R103). -/
def handleRouting (new : Routing) (polled : Bool) (s : State) : State :=
  match s.mixer.lastCopy with
  | some (c, _) =>
    if c = new then s else if routingFaultOf new = 0 then takeRouting new s else refuseRouting new polled s
  | none => if routingFaultOf new = 0 then takeRouting new s else refuseRouting new polled s

/-- Whether the last copy was taken: what a MIXER_SET's answer follows from (R117). -/
def copyTaken (s : State) : Bool :=
  match s.mixer.lastCopy with
  | some (_, t) => t
  | none => false

/-! ## Block starts, QUIET, WAKE, DETACH -/

/-- The inputs are applied at a block start and the clip marks cleared (R110, R111, R116, R118). -/
def applyInputs (s : State) : State :=
  retargetAll (s.onMixer fun m =>
    { m with
      duckApplied := m.duckHanded
      muteApplied := m.muteHanded
      quietMute := m.quietMute && !m.wakeMark
      wakeMark := false
      clipMark := ⟨false, false, false⟩ })

/-- QUIET at the mixer (R118). -/
def quietMixer (s : State) : State :=
  retargetAll (s.onMixer fun m => { m with quietMute := true, wakeMark := false })

/-- WAKE at the mixer (R118). -/
def wakeMixer (s : State) : State := s.onMixer fun m => { m with wakeMark := m.quietMute }

/-- DETACH at the mixer (R119). -/
def detachMixer (s : State) : State :=
  let s := s.onMixer fun m => { m with taken := Routing.reset, lastCopy := none, routingFault := 0 }
  let s := allRoutes.foldl
    (fun s r => s.onRoute r fun rs => { rs with level := none, duck := 36, pending := none }) s
  retargetAll s

/-! ## Samples (R102, R109, R113 to R116) -/

/-- A 16-bit sample widened to 24 bits (R113). -/
def widen (h : Half) : Int := signed16 h * 256

/-- A route's contribution on one channel (R114); the same step brings a chime to its level (R136). -/
def contribution (v : Int) (g : Nat) : Int := (v * g + 16384) / 32768

/-- The gain of ramp step m (R109). -/
def rampGain (r : Ramp) (m : Nat) : Nat :=
  ((r.start : Int) + roundDiv (((r.target : Int) - r.start) * m) 256).toNat

/-- A route goes on by one sample: its next ramp step, the ramp absent after step 256 (R109). -/
def RouteState.advance (rs : RouteState) : RouteState :=
  match rs.ramp with
  | none => rs
  | some r =>
    if 255 ≤ r.step then { rs with gain := rampGain r 256, ramp := none }
    else { rs with gain := rampGain r (r.step + 1), ramp := some { r with step := r.step + 1 } }

/-- A ramp at its step 256 (R109). -/
def RouteState.endRamp (rs : RouteState) : RouteState :=
  match rs.ramp with
  | none => rs
  | some r => { rs with gain := r.target, ramp := none }

/-- A sample is a zero crossing when it is 0 or when it and the one before are nonzero with opposite signs (R108). -/
def zeroCrossing (before now : Int) : Bool :=
  now == 0 || (decide (before < 0) && decide (0 < now)) || (decide (0 < before) && decide (now < 0))

/-- A route's pending change at one sample of its wait: applied at a crossing or at the 960th sample (R108). -/
def waitSample (crossing : Bool) (r : Route) (s : State) : State :=
  match (s.route r).pending with
  | none => s
  | some p =>
    if crossing || p.wait ≤ 1 then applyHostChange r s
    else s.onRoute r fun rs => { rs with pending := some { p with wait := p.wait - 1 } }

/-- The 24-bit limits of an output sample (R116). -/
def limit24 (v : Int) : Int := clampInt (-8388608) 8388607 v

/-- The first saturation of a zone in a block sets the mark, the count and AUDIO_CLIP (R116). -/
def saturate (z : Zone) (s : State) : State :=
  if s.mixer.clipMark.get z then s
  else setFlag .audioClip (s.onMixer fun m =>
    { m with
      clipMark := m.clipMark.update z fun _ => true
      clips := m.clips.update z (· + 1)
      shown := writeWord (clipPlace z) (m.clips.get z + 1) m.shown })

/-- A chime contribution for one sample period: its value in each zone, the same left and right, and whether it comes
from the proximity voice or an internal chime (R115). -/
structure Contribution where
  internal : Bool
  values : PerZone Int
deriving DecidableEq, Repr

/-- Whether the mixer admits a contribution (R115). -/
def admits (m : Mixer) (c : Contribution) : Bool := !m.quietMute || (m.reverseHold && c.internal)

/-- The admitted chime contributions of a zone. -/
def chimeSum (m : Mixer) (z : Zone) (cs : List Contribution) : Int :=
  ((cs.filter (admits m)).map fun c => c.values.get z).sum

/-- A zone's exact sum on each channel (R116). -/
def zoneSum (m : Mixer) (samples : PerStream Stereo) (cs : List Contribution) (z : Zone) : Stereo :=
  let g0 := (m.routes.f0.get z).gain
  let g1 := (m.routes.f1.get z).gain
  let c := chimeSum m z cs
  ⟨contribution samples.f0.left g0 + contribution samples.f1.left g1 + c,
   contribution samples.f0.right g0 + contribution samples.f1.right g1 + c⟩

/-- Whether either channel of a sum must be limited (R116). -/
def saturates (v : Stereo) : Bool := limit24 v.left != v.left || limit24 v.right != v.right

/-- A zone outputs its limited sum, and a saturation is marked (R102, R116). -/
def outputZone (v : Stereo) (z : Zone) (s : State) : State :=
  let s := if saturates v then saturate z s else s
  s.onMixer fun m => { m with output := m.output.update z fun _ => ⟨limit24 v.left, limit24 v.right⟩ }

/-- One sample period of the mixer (R102, R108, R109, R116). -/
def mixSample (samples : PerStream Stereo) (cs : List Contribution) (s : State) : State :=
  let crossing := fun (st : Stream) => zeroCrossing (s.mixer.lastLeft.get st) (samples.get st).left
  let s := allRoutes.foldl (fun s r => waitSample (crossing r.stream) r s) s
  let s := allRoutes.foldl (fun s r => s.onRoute r RouteState.advance) s
  let m := s.mixer
  let s := outputZone (zoneSum m samples cs .cabin) .cabin s
  let s := outputZone (zoneSum m samples cs .phonesL) .phonesL s
  let s := outputZone (zoneSum m samples cs .phonesR) .phonesR s
  s.onMixer fun m => { m with lastLeft := ⟨samples.f0.left, samples.f1.left⟩ }

/-! ## The mixer status (R121, R200) -/

/-- The words of a route in the mixer status. -/
def routeReport (m : Mixer) (r : Route) : List Word :=
  let x := m.taken.setting r
  let rs := (m.routes.get r.stream).get r.zone
  [x.enable.setWidth 32, x.attenuation.setWidth 32, wordOfIndex rs.level, wordOfNat rs.gain, wordOfNat rs.target,
   wordOfBool rs.ramp.isSome, wordOfBool rs.pending.isSome]

/-- The words of the mixer status in the order of R200: seven for each route, then the rest. -/
def mixerReport (m : Mixer) : List Word :=
  allRoutes.flatMap (routeReport m) ++
  [m.taken.masters.cabin.setWidth 32, m.taken.masters.phonesL.setWidth 32, m.taken.masters.phonesR.setWidth 32,
   m.taken.duck.setWidth 32, wordOfBool m.duckApplied, wordOfBool m.muteApplied, wordOfBool m.quietMute,
   m.clips.cabin, m.clips.phonesL, m.clips.phonesR, wordOfNat m.routingFault, m.refusals]

/-- The mixer status is written as it stands (R121). -/
def reportMixer (s : State) : State := s.onMixer fun m => { m with shown := mixerReport m }

end Sys2Proof.Machine
end

