-- ==== Sys2Proof/Machine/Chime.lean ====
section
/-! DEFINITION. The chime engine (chapter 6): the cards and their answers, the waiting list, the main voice, the
proximity voice, and the samples both voices make. -/

namespace Sys2Proof.Machine

/-! ## Cards and answers (R127) -/

def noCard : CardState := ⟨none, 0, .none, 0, 0⟩

def State.card (s : State) (n : Nat) : CardState := s.chime.cards.getD n noCard

/-- A change of a card's answer record, with the block count of the moment (R127). -/
def writeCard (n : Nat) (f : CardState → CardState) (s : State) : State :=
  s.onChime fun c => { c with cards := setAt c.cards n fun k => { f k with blockCount := s.port.blockCount } }

/-- The answer states that set CHIME_DONE (R127). -/
def ChimeAnswer.ends : ChimeAnswer → Bool
  | .finished => true
  | .stopped => true
  | .suppressed => true
  | .refused => true
  | .none => false
  | .waiting => false
  | .playing => false

/-- The chime on the main voice, if there is one. -/
def MainVoice.chime : MainVoice → Option VoiceChime
  | .idle => none
  | .sounding v => some v
  | .releasing v _ => some v

/-- The clip of a card's chime on the main voice is read no more: the host may reuse its buffer (R127). -/
def endClip (n : Nat) (s : State) : State :=
  s.onChime fun c =>
    match c.voice.chime with
    | none => c
    | some v => if v.chime.source = .card n then { c with clipEnded := some v.chime.take } else c

/-- A card's answer state becomes a (R127). -/
def setAnswer (n : Nat) (a : ChimeAnswer) (s : State) : State :=
  let s := writeCard n (fun k => { k with state := a }) s
  if a.ends then setFlag .chimeDone (endClip n s) else s

/-- The answer of a chime's card, if it comes from one. -/
def answerSource (src : ChimeSource) (a : ChimeAnswer) (s : State) : State :=
  match src with
  | .card n => setAnswer n a s
  | .cameraUnavailable => s
  | .sensingUnavailable => s

/-! ## The waiting list (R128) -/

/-- Whether a chime stands before another: higher class first, then the earlier take. -/
def Chime.before (a b : Chime) : Bool := decide (b.cls < a.cls) || (a.cls == b.cls && decide (a.take < b.take))

/-- A chime at its place in the list. -/
def insertChime (c : Chime) : List Chime → List Chime
  | [] => [c]
  | x :: rest => if c.before x then c :: x :: rest else x :: insertChime c rest

/-- Change the chime on the voice. -/
def MainVoice.update (f : VoiceChime → VoiceChime) : MainVoice → MainVoice
  | .idle => .idle
  | .sounding v => .sounding (f v)
  | .releasing v m => .releasing (f v) m

/-- The chime duck as R137 has it. -/
def duckWanted (c : ChimeEngine) : Bool :=
  c.proximity.active ||
  match c.voice.chime with
  | none => false
  | some v => decide (1 ≤ v.chime.cls)

/-- The chime engine hands the mixer its duck (R137, R110). -/
def handDuck (s : State) : State := s.onMixer fun m => { m with duckHanded := duckWanted s.chime }

/-- COURTESY chimes at the head are suppressed while the proximity voice is active (R140); the test is repeated. -/
def suppressHead : Nat → State → State
  | 0, s => s
  | fuel + 1, s =>
    match s.chime.waiting with
    | [] => s
    | c :: rest =>
      if s.chime.proximity.active ∧ c.cls = 0 then
        suppressHead fuel (answerSource c.source .suppressed
          (s.onChime fun k => { k with waiting := rest, suppressed := k.suppressed + 1 }))
      else s

/-- The test of R140 at an event that may bring a chime to the head. -/
def suppress (s : State) : State := suppressHead s.chime.waiting.length s

/-- A chime enters the list (R128, R140). -/
def enterChime (c : Chime) (s : State) : State :=
  suppress (s.onChime fun k => { k with waiting := insertChime c k.waiting })

/-- The chimes of a source leave the list, save the one with a given take number. -/
def dropWaiting (src : ChimeSource) (keep : Option Nat) (s : State) : State :=
  suppress (s.onChime fun k =>
    { k with waiting := k.waiting.filter fun c => c.source != src || some c.take == keep })

/-- Whether a chime of a source waits. -/
def ChimeEngine.waits (c : ChimeEngine) (src : ChimeSource) : Bool := c.waiting.any fun x => x.source == src

/-- Whether the voice's chime is the chime of card n. -/
def ChimeEngine.playsCard (c : ChimeEngine) (n : Nat) : Bool :=
  match c.voice.chime with
  | none => false
  | some v => v.owned && v.chime.source == .card n

/-- Whether the voice's chime comes from a source. -/
def ChimeEngine.plays (c : ChimeEngine) (src : ChimeSource) : Bool :=
  match c.voice.chime with
  | none => false
  | some v => v.chime.source == src

/-- The card's chime on the voice is given up: an end mark without answer, and no longer the card's (R124, R126). -/
def disown (n : Nat) (s : State) : State :=
  if s.chime.playsCard n then
    s.onChime fun k => { k with voice := k.voice.update fun v => { v with owned := false, mark := .silent } }
  else s

/-- The voice in a repetition's first sample. -/
def VoiceChime.restart (v : VoiceChime) (done : Nat) : VoiceChime :=
  { v with chime := { v.chime with done := done }, position := 0, phase := 0, ended := false }

/-! ## The main voice (R130 to R133) -/

/-- The voice starts the head of the list, or becomes IDLE when the list is empty (R130, R131, R133). -/
def startNext (s : State) : State :=
  match s.chime.waiting with
  | [] => handDuck (s.onChime fun k => { k with voice := .idle })
  | c :: rest =>
    let s := s.onChime fun k => { k with waiting := rest, voice := .sounding ⟨c, true, .none, 0, 0, false⟩ }
    handDuck (suppress (answerSource c.source .playing s))

/-- A chime goes back to the list with its take number and repetitions done (R131, R132). -/
def returnChime (c : Chime) (s : State) : State :=
  enterChime c (answerSource c.source .waiting (s.onChime fun k => { k with returns := k.returns + 1 }))

/-- The class of the head, if there is one. -/
def headClass (s : State) : Option Nat := s.chime.waiting.head?.map (·.cls)

/-- Whether the head's class is higher than a given one. -/
def headAbove (s : State) (cls : Nat) : Bool :=
  match headClass s with
  | none => false
  | some k => decide (cls < k)

/-- The next repetition of the voice's chime begins. -/
def repeatChime (v : VoiceChime) (done : Nat) (s : State) : State :=
  s.onChime fun k => { k with voice := .sounding (v.restart done) }

/-- For a chime that is still its card's, the card's repetitions done are written (R131 step 1). -/
def writeDone (v : VoiceChime) (done : Nat) (s : State) : State :=
  match v.chime.source with
  | .card n => if v.owned then writeCard n (fun k => { k with done := wordOfNat done }) s else s
  | .cameraUnavailable => s
  | .sensingUnavailable => s

/-- Whether a chime has no repetition to play after so many (R131 step 2). -/
def Chime.complete (c : Chime) (done : Nat) : Bool := c.repeats != 255 && decide (c.repeats ≤ done)

/-- The last sample of a repetition (R131). DEDUCED: the main voice finishes nothing from a forgotten tray, so a chime of
it that has no repetition left is silent on the voice until its release at the boundary; that last repetition is counted
in the voice's repetitions done, as R131 counts each, and only the finish is left out (R141, log 52). -/
def endRepetition (s : State) : State :=
  match s.chime.voice with
  | .idle => s
  | .releasing _ _ => s
  | .sounding v =>
    if v.ended then s else
    let done := v.chime.done + 1
    let s := writeDone v done s
    if v.chime.complete done then
      if v.mark = .forgotten then
        s.onChime fun k => { k with voice := .sounding { v with chime := { v.chime with done := done }, ended := true } }
      else
        let s := if v.owned then answerSource v.chime.source .finished s else s
        startNext (s.onChime fun k => { k with finished := k.finished + 1 })
    else if v.mark ≠ .none then repeatChime v done s
    else if headAbove s v.chime.cls then startNext (returnChime { v.chime with done := done } s)
    else repeatChime v done s

/-- An ALERT takes the voice at a boundary (R132). -/
def preempt (v : VoiceChime) (s : State) : State :=
  match v.mark with
  | .none => startNext (returnChime v.chime s)
  | .stopped => startNext (if v.owned then answerSource v.chime.source .stopped s else s)
  | .silent => startNext s
  | .forgotten => startNext s

/-- The main voice at an audio block boundary (R130, R132, R133). -/
def voiceBoundary (s : State) : State :=
  match s.chime.voice with
  | .idle => if s.chime.waiting.isEmpty then s else startNext s
  | .releasing _ _ => s
  | .sounding v =>
    if headClass s = some 3 ∧ v.chime.cls < 3 then preempt v s
    else if v.mark ≠ .none then s.onChime fun k => { k with voice := .releasing v 0 }
    else s

/-- The end of a release, at its sample 240 (R133). -/
def endRelease (s : State) : State :=
  match s.chime.voice with
  | .idle => s
  | .sounding _ => s
  | .releasing v _ =>
    if v.mark = .stopped ∧ v.owned then
      startNext (answerSource v.chime.source .stopped (s.onChime fun k => { k with stopped := k.stopped + 1 }))
    else startNext s

/-! ## Clips (R42, R127, R135) -/

/-- The samples of a repetition (R130). -/
def ChimeProgram.length : ChimeProgram → Nat
  | .tone _ on off => (on + off) * 48
  | .clip _ n => n

/-- A stretch of a clip's samples, in one repetition of a chime. -/
structure ClipRun where
  take : Nat
  repetition : Nat
  addr : Addr
  position : Nat
  count : Nat
deriving DecidableEq, Repr

/-- Whether the clip of the chime on the voice is read: while ATTACHED (R135), not once its card's answer has ended, also
when a later ask has made the card WAITING again (R127), and not when its tray is forgotten (R141). -/
def VoiceChime.read (v : VoiceChime) (s : State) : Bool :=
  s.port.attached && v.mark != .forgotten && s.chime.clipEnded != some v.chime.take

/-- The next n samples of the voice's chime, when they are clip samples that are read. -/
def VoiceChime.run (v : VoiceChime) (n : Nat) (s : State) : List ClipRun :=
  match v.chime.program with
  | .tone _ _ _ => []
  | .clip a count =>
    if v.read s && !v.ended then [⟨v.chime.take, v.chime.done, a, v.position, min n (count - v.position)⟩] else []

/-- What the main voice plays from clips in the next `left` samples, as things stand, in the order it plays it (R135). -/
def clipPlan : Nat → Nat → State → List ClipRun
  | 0, _, _ => []
  | fuel + 1, left, s =>
    match s.chime.voice with
    | .idle => []
    | .sounding v =>
      if v.ended then [] else
      let rest := v.chime.program.length - v.position
      v.run left s ++ (if rest < left then clipPlan fuel (left - rest) (endRepetition s) else [])
    | .releasing v m =>
      let rest := 240 - m
      v.run (min left rest) s ++ (if rest < left then clipPlan fuel (left - rest) (endRelease s) else [])

/-- The requests for a stretch of clip samples of the block being output. -/
def ClipRun.requests (r : ClipRun) (serial : Nat) : List Request :=
  let start := r.addr + BitVec.ofNat 64 (2 * r.position)
  (requestsOf start (2 * r.count)).map fun q =>
    ⟨.audio, q.1, .read (.clipSamples serial r.take r.repetition (r.position + (q.1 - start).toNat / 2)) q.2⟩

/-- A stretch without the samples presented already. -/
def ClipRun.unasked (r : ClipRun) (asked : List ClipAsked) : ClipRun :=
  match asked.find? fun x => x.take == r.take && x.repetition == r.repetition with
  | none => r
  | some x => { r with position := max r.position x.upTo, count := r.position + r.count - max r.position x.upTo }

/-- A stretch is noted as presented. -/
def noteAsked (r : ClipRun) (asked : List ClipAsked) : List ClipAsked :=
  ⟨r.take, r.repetition, r.position + r.count⟩ ::
    asked.filter fun x => !(x.take == r.take && x.repetition == r.repetition)

/-- A stretch is presented to the audio fetcher, save what has been. -/
def askRun (r : ClipRun) (s : State) : State :=
  let r := r.unasked s.chime.clipAsked
  if r.count = 0 then s
  else
    { s with audio := { s.audio with queue := s.audio.queue ++ r.requests s.audio.serial } }.onChime fun c =>
      { c with clipAsked := noteAsked r c.clipAsked }

/-- Whether the clip of a chime with a take number is still to be read: it waits, or it is on the voice (R127). -/
def takeRead (take : Nat) (s : State) : Bool :=
  (s.chime.waiting.any fun c => c.take == take) ||
  match s.chime.voice.chime with
  | none => false
  | some v => v.chime.take == take && v.read s

/-- Whether a waiting request of the audio fetcher is still wanted. -/
def clipWanted (s : State) (r : Request) : Bool :=
  match r.work with
  | .read (.clipSamples _ take _ _) _ => takeRead take s
  | _ => true

/-- The clip reads that wait for a clip no longer read are withdrawn (R127). -/
def dropClips (s : State) : State :=
  { s with audio := { s.audio with queue := s.audio.queue.filter (clipWanted s) } }

/-- The audio fetcher presents the clip samples of the rest of the block, save those presented already (R42, R135). DESIGN
CHOICE: a clip that the block end could not know of is presented at the event that lets it play within the block
(log 51). -/
def presentClips (s : State) : State :=
  let s := dropClips s
  (clipPlan 257 (256 - s.audio.position) s).foldl (fun s r => askRun r s) s

/-! ## Asks from the tray (R122 to R126) -/

/-- A card's ask is taken: its sequence becomes the last taken and the answered one (R122, R127). -/
def takeSequence (n : Nat) (sequence : Word) (s : State) : State :=
  writeCard n (fun k => { k with lastTaken := some sequence, answered := sequence }) s

/-- A PLAY taken without refusal (R124). DEDUCED: the take number handed is the count after its advance, so that the first
chime after cold start has take number 1, as in the worked sequence 6.4.1 (R122, log 39). DESIGN CHOICE: the test of
R140 is made once, when the new chime has entered the list and the card's previous chime has left it, and not between
the two (log 70). -/
def playCard (n : Nat) (c : ChimeCard) (s : State) : State :=
  let take := s.chime.takes + 1
  let chime : Chime :=
    { source := .card n
      cls := c.cls.toNat
      take := take
      program := programOf c
      level := c.level.toNat
      repeats := c.repeats.toNat
      phonesL := c.phonesL == 1
      phonesR := c.phonesR == 1
      done := 0 }
  let s := disown n (s.onChime fun k => { k with takes := k.takes + 1 })
  let s := writeCard n (fun k => { k with state := .waiting, done := 0 }) s
  let s := s.onChime fun k =>
    { k with waiting := (insertChime chime k.waiting).filter fun x => x.source != .card n || x.take == take }
  suppress s

/-- A STOP taken (R125). -/
def stopCard (n : Nat) (s : State) : State :=
  if s.chime.waits (.card n) then setAnswer n .stopped (dropWaiting (.card n) none s)
  else if s.chime.playsCard n then
    match s.chime.voice with
    | .sounding v =>
      if v.mark = .none then s.onChime fun k => { k with voice := .sounding { v with mark := .stopped } } else s
    | .releasing _ _ => s
    | .idle => s
  else if (s.card n).state = .none then setAnswer n .stopped s
  else s

/-- A refused ask (R126). DESIGN CHOICE: a refusal on a card that is REFUSED already sets CHIME_DONE again, and the record
of a card without a chime keeps its last repetitions done (R127, log 50). -/
def refuseCard (n : Nat) (s : State) : State :=
  let s := setAnswer n .refused (s.onChime fun k => { k with refused := k.refused + 1 })
  disown n (dropWaiting (.card n) none s)

/-- A card taken: its ask is checked and acted on (R123 to R126). -/
def takeCard (n : Nat) (c : ChimeCard) (s : State) : State :=
  let s := takeSequence n c.sequence s
  if c.ask = 1 then (if playRefused c then refuseCard n s else playCard n c s)
  else if c.ask = 2 then stopCard n s
  else refuseCard n s

/-- A card of a completed tray read handed to the engine (R122). -/
def handCard (n : Nat) (c : ChimeCard) (s : State) : State :=
  match (s.card n).lastTaken with
  | none => s.onChime fun k => { k with cards := setAt k.cards n fun x => { x with lastTaken := some c.sequence } }
  | some q => if q = c.sequence then s else presentClips (takeCard n c s)

/-- The eight cards of a completed tray read, in card order (R122). -/
def handTray (bytes : List Byte) (s : State) : State :=
  (List.range 8).foldl (fun s n => handCard n (chimeCardAt bytes (64 * n)) s) s

/-! ## Internal chimes (R129) -/

/-- The built-in chime programs (R129). -/
def internalChime (src : ChimeSource) (take : Nat) : Chime :=
  match src with
  | .sensingUnavailable => ⟨src, 2, take, .tone 440 150 150, 12, 3, false, false, 0⟩
  | .cameraUnavailable => ⟨src, 2, take, .tone 600 300 200, 12, 2, false, false, 0⟩
  | .card _ => ⟨src, 2, take, .tone 600 300 200, 12, 2, false, false, 0⟩

/-- A request for an internal chime (R129), with a take number as `playCard` hands it (log 39). -/
def requestInternal (src : ChimeSource) (s : State) : State :=
  if s.chime.waits src || s.chime.plays src then
    s.onChime fun k => { k with droppedRequests := k.droppedRequests + 1 }
  else
    let take := s.chime.takes + 1
    enterChime (internalChime src take) (s.onChime fun k => { k with takes := k.takes + 1 })

/-! ## The proximity voice (R138, R139) -/

def State.onProximity (f : Proximity → Proximity) (s : State) : State :=
  s.onChime fun k => { k with proximity := f k.proximity }

/-- Whether the proximity voice is to be active (R138). -/
def Proximity.wanted (p : Proximity) : Bool :=
  p.showing && p.fresh &&
  match p.nearest with
  | none => false
  | some d => decide (d < 1500)

/-- The off time in ms for a distance (R139). -/
def offTimeOf (d : Nat) : Nat := (clampInt 40 720 (roundDiv (((d : Int) - 300) * 720) 1200)).toNat

/-- The last reported distance, for a beep start. -/
def Proximity.distance (p : Proximity) : Nat := p.nearest.getD 0

/-- A beep starts with D from the last report (R139). -/
def Proximity.startBeep (p : Proximity) : Proximity :=
  let d := p.distance
  if 300 < d then
    { p with state := .beep, position := 0, beepSamples := 0, phase := 0, continuous := false, offTime := offTimeOf d }
  else { p with state := .beep, position := 0, beepSamples := 0, phase := 0, continuous := true }

/-- The voice becomes active (R138). -/
def Proximity.activate (p : Proximity) : Proximity :=
  match p.state with
  | .inactive => { p with active := true, state := .starting }
  | .releasing => { p with active := true, after := .starting }
  | .beep => { p with active := true }
  | .gap => { p with active := true }
  | .starting => { p with active := true }

/-- The voice becomes inactive (R138). -/
def Proximity.deactivate (p : Proximity) : Proximity :=
  match p.state with
  | .beep => { p with active := false, state := .releasing, after := .inactive, position := 0 }
  | .releasing => { p with active := false, after := .inactive }
  | .gap => { p with active := false, state := .inactive }
  | .starting => { p with active := false, state := .inactive }
  | .inactive => { p with active := false }

/-- A report that keeps the voice active ends a continuous beep when D is beyond 300 mm (R139). -/
def Proximity.keep (p : Proximity) : Proximity :=
  if p.state = .beep ∧ p.continuous ∧ 300 < p.distance then
    { p with state := .releasing, after := .gap, position := 0, offTime := offTimeOf p.distance }
  else p

/-- The evaluation of R138, with the suppression of R140 on becoming active and the duck of R137. -/
def evaluateProximity (s : State) : State :=
  let p := s.chime.proximity
  if p.wanted then
    if p.active then s.onProximity Proximity.keep
    else handDuck (presentClips (suppress (s.onProximity Proximity.activate)))
  else if p.active then handDuck (s.onProximity Proximity.deactivate)
  else s

/-- A distance report (R83, R138). -/
def reportDistance (fresh : Bool) (d : Option Nat) (s : State) : State :=
  evaluateProximity (s.onProximity fun p => { p with fresh := fresh, nearest := d })

/-- The reverse showing input (R145, R138). -/
def handShowing (showing : Bool) (s : State) : State :=
  if s.chime.proximity.showing = showing then s
  else evaluateProximity (s.onProximity fun p => { p with showing := showing })

/-- A STARTING voice starts its first beep at a block boundary (R138). -/
def proximityBoundary (s : State) : State :=
  s.onProximity fun p => if p.state = .starting then p.startBeep else p

/-- The 80 ms on time ends (R139). -/
def Proximity.endBeep (p : Proximity) : Proximity :=
  if p.state = .beep ∧ p.continuous = false then { p with state := .gap, position := 0 } else p

/-- The gap ends and the next beep starts (R139). -/
def Proximity.endGap (p : Proximity) : Proximity := if p.state = .gap then p.startBeep else p

/-- The 240-sample release ends (R138, R139). -/
def Proximity.endRelease (p : Proximity) : Proximity :=
  if p.state = .releasing then
    match p.after with
    | .inactive => { p with state := .inactive, position := 0 }
    | .gap => { p with state := .gap, position := 0 }
    | .starting => { p with state := .starting, position := 0 }
  else p

/-! ## Making the sound (R134 to R136) -/

/-- The phase increment of a frequency (R134). -/
def phaseStep (f : Nat) : Nat := (roundDiv ((f : Int) * 65536) 48000).toNat

/-- The enveloped value of a tone (R134). -/
def toneValue (phase : Half) (envelope : Nat) : Int := (toneEntry (phase.toNat / 256) * 256 * envelope) / 240

/-- The envelope of sample m of an on time of n samples (R134). -/
def envelope (m n : Nat) : Nat := min 240 (min m (n + 1 - m))

/-- The contribution of a value at a level, the value given as a quotient so that a release rounds only here (R136,
R133, log 9). -/
def levelled (num : Int) (den : Nat) (level : Nat) : Int :=
  (num * gainOf level + 16384 * den) / (32768 * (den : Int))

/-- The clip sample the voice plays next, if it has been fetched. -/
def clipSample (c : ChimeEngine) (v : VoiceChime) : Option Half :=
  (c.clipGot.find? fun x =>
    x.take == v.chime.take && x.repetition == v.chime.done && x.position == v.position).map (·.value)

/-- The main voice's value before its release factor (R134, R135). -/
def voiceValue (c : ChimeEngine) (v : VoiceChime) : Int :=
  if v.ended then 0 else
  match v.chime.program with
  | .tone _ on _ => if v.position < on * 48 then toneValue v.phase (envelope (v.position + 1) (on * 48)) else 0
  | .clip _ _ => match clipSample c v with | some h => widen h | none => 0

/-- A chime's contribution to the zones it sounds in (R136). -/
def zonesOf (c : Chime) (x : Int) : PerZone Int := ⟨x, if c.phonesL then x else 0, if c.phonesR then x else 0⟩

/-- Whether a chime is internal. -/
def Chime.internal (c : Chime) : Bool :=
  match c.source with
  | .card _ => false
  | .cameraUnavailable => true
  | .sensingUnavailable => true

/-- The main voice's contribution for the next sample (R133, R136). -/
def voiceContribution (c : ChimeEngine) : List Contribution :=
  match c.voice with
  | .idle => []
  | .sounding v => [⟨v.chime.internal, zonesOf v.chime (levelled (voiceValue c v) 1 v.chime.level)⟩]
  | .releasing v m =>
    [⟨v.chime.internal,
      zonesOf v.chime (levelled (voiceValue c v * ((240 : Int) - ((m : Int) + 1))) 240 v.chime.level)⟩]

/-- The proximity voice's contribution for the next sample (R134, R139). DESIGN CHOICE: its release has the factor of the
main voice's (R133) over the beep as it would have gone on (log 58). -/
def proximityContribution (p : Proximity) : List Contribution :=
  let e := if p.continuous then min 240 (p.beepSamples + 1) else envelope (p.beepSamples + 1) 3840
  match p.state with
  | .beep => [⟨true, ⟨levelled (toneValue p.phase e) 1 12, 0, 0⟩⟩]
  | .releasing =>
    [⟨true, ⟨levelled (toneValue p.phase e * ((240 : Int) - ((p.position : Int) + 1))) 240 12, 0, 0⟩⟩]
  | .inactive => []
  | .gap => []
  | .starting => []

/-- The chime contributions of one sample period (R115). -/
def chimeContributions (s : State) : List Contribution :=
  voiceContribution s.chime ++ proximityContribution s.chime.proximity

/-- Whether the voice's next sample is a clip sample that has not been fetched (R135). A sample of a clip that is no
longer read is 0 and no miss (log 51). -/
def clipMissing (s : State) : Bool :=
  match s.chime.voice.chime with
  | none => false
  | some v =>
    match v.chime.program with
    | .tone _ _ _ => false
    | .clip _ _ => !v.ended && v.read s && (clipSample s.chime v).isNone

/-- A missed clip sample counts once in a block (R135). -/
def missClip (s : State) : State :=
  if s.chime.clipMissed then s
  else s.onChime fun c => { c with clipMissed := true, clipMisses := c.clipMisses + 1 }

/-- The tone generator after a sample: the phase advances in an on time (R134). -/
def VoiceChime.advance (v : VoiceChime) : VoiceChime :=
  match v.chime.program with
  | .tone f on _ =>
    { v with
      position := v.position + 1
      phase := if v.position < on * 48 then v.phase + BitVec.ofNat 16 (phaseStep f) else v.phase }
  | .clip _ _ => { v with position := v.position + 1 }

/-- The main voice goes on by one sample, with what falls at the sample (R131, R133). -/
def advanceVoice (s : State) : State :=
  match s.chime.voice with
  | .idle => s
  | .sounding v =>
    let v := v.advance
    let s := s.onChime fun k => { k with voice := .sounding v }
    if v.ended = false ∧ v.chime.program.length ≤ v.position then presentClips (endRepetition s) else s
  | .releasing v m =>
    let v := v.advance
    let v := if v.chime.program.length ≤ v.position then { v with ended := true } else v
    let s := s.onChime fun k => { k with voice := .releasing v (m + 1) }
    if 240 ≤ m + 1 then presentClips (endRelease s) else s

/-- The proximity voice goes on by one sample (R139). -/
def Proximity.advance (p : Proximity) : Proximity :=
  let tone := fun (q : Proximity) =>
    { q with beepSamples := q.beepSamples + 1, phase := q.phase + BitVec.ofNat 16 (phaseStep 1000) }
  match p.state with
  | .beep =>
    let q := tone { p with position := p.position + 1 }
    if q.continuous = false ∧ 3840 ≤ q.position then q.endBeep else q
  | .gap =>
    let q := { p with position := p.position + 1 }
    if q.offTime * 48 ≤ q.position then q.endGap else q
  | .releasing =>
    let q := tone { p with position := p.position + 1 }
    if 240 ≤ q.position then q.endRelease else q
  | .inactive => p
  | .starting => p

/-- Both voices go on by one sample. -/
def advanceChimes (s : State) : State :=
  let s := if clipMissing s then missClip s else s
  (advanceVoice s).onProximity Proximity.advance

/-! ## DETACH (R141) -/

/-- The tray is forgotten: tray chimes leave the list, one on the voice is ended without answer and finishes nothing, and
the cards start again from a reference read. -/
def detachChimes (s : State) : State :=
  s.onChime fun k =>
    { k with
      waiting := k.waiting.filter Chime.internal
      voice := k.voice.update fun v => if v.chime.internal then v else { v with owned := false, mark := .forgotten }
      cards := k.cards.map fun c => { c with lastTaken := none, state := .none } }

end Sys2Proof.Machine
end

