-- ==== Sys2Proof/Machine/Guide.lean ====
section
/-! DEFINITION. The guide line engine (chapter 4): the vehicle sample and its freshness, the computation of a guide set
from its inputs, the life of sets and computations, and the pixels a set covers (R100). -/

namespace Sys2Proof.Machine

/-! ## The computation (4.4, 4.5) -/

/-- A turn: the road wheel angle δ in 0.01°, the magnitude of the curvature κq, and the signed radius ρ (R92). -/
structure Turn where
  delta : Int
  kappa : Nat
  rho : Int
deriving DecidableEq, Repr

/-- The road wheel angle of a steering wheel angle (R90). -/
def roadAngle (theta : Int) (ratio : Nat) : Int := clampInt (-4500) 4500 (roundDiv (theta * 640) ratio)

/-- The path of a computation: none when it is straight (R90 to R92). -/
def turnOf (g : Geometry) (theta : Int) : Option Turn :=
  let d := roadAngle theta g.ratio
  if d.natAbs < 5 then none
  else
    let kappa := (roundDiv ((tangentAt d.natAbs : Int) * 16384) g.wheelbase).toNat
    let r := roundDiv 1073741824 kappa
    some ⟨d, kappa, if d < 0 then -r else r⟩

/-- The turned angle α_cd at an arc length (R93). -/
def turnedAngle (kappa s : Nat) : Nat := (roundDiv ((s * kappa * 5730 : Nat) : Int) 1073741824).toNat

/-- The ground point of a corner x0 for a turn of radius R > 0 at a turned angle of at most 90° (R94). -/
def turnPoint (g : Geometry) (x0 r : Int) (alpha : Nat) : Int × Int :=
  let sq : Int := sineAt alpha
  let cq : Int := sineAt (9000 - alpha)
  let o : Int := g.overhang
  (r + roundDiv ((x0 - r) * cq + o * sq) 65536, -o + roundDiv (-(x0 - r) * sq + o * cq) 65536)

/-- Half the track: x0 of the RIGHT corner; the LEFT corner's is its negation. -/
def cornerOf (g : Geometry) (right : Bool) : Int := if right then (g.track / 2 : Nat) else -((g.track / 2 : Nat) : Int)

/-- The ground point of a corner at arc length s; none when the turned angle exceeds 90.00° (R90, R93, R94). -/
def groundPoint (g : Geometry) (t : Option Turn) (right : Bool) (s : Nat) : Option (Int × Int) :=
  let x0 := cornerOf g right
  match t with
  | none => some (x0, (s : Int))
  | some t =>
    let a := turnedAngle t.kappa s
    if 9000 < a then none
    else if 0 ≤ t.rho then some (turnPoint g x0 t.rho a)
    else
      let p := turnPoint g (-x0) (-t.rho) a
      some (-p.1, p.2)

/-- The camera image point of a ground point; none when it is dropped (R95). -/
def project (g : Geometry) (p : Int × Int) : Option (Int × Int) :=
  let den := g.h31 * p.1 + g.h32 * p.2 + g.h33
  if den ≤ 0 then none
  else
    let u := roundDiv (g.h11 * p.1 + g.h12 * p.2 + g.h13) den.toNat
    let v := roundDiv (g.h21 * p.1 + g.h22 * p.2 + g.h23) den.toNat
    if 4096 < u.natAbs ∨ 4096 < v.natAbs then none else some (u, v)

/-- The screen place of a camera image point (R96). -/
def placePoint (i : GuideInputs) (p : Int × Int) : Int × Int :=
  (i.view.x + (p.1 * i.view.w + (i.camW : Int) / 2) / i.camW,
   i.view.y + (p.2 * i.view.h + (i.camH : Int) / 2) / i.camH)

/-- A corner's screen point at arc length s, when it is produced (R93 to R96). -/
def screenPoint (i : GuideInputs) (t : Option Turn) (right : Bool) (s : Nat) : Option (Int × Int) :=
  match groundPoint i.geometry t right s with
  | none => none
  | some p => (project i.geometry p).map (placePoint i)

/-- The band of a point at arc length s (R97). -/
def bandAt (g : Geometry) (s : Nat) : Band := if s < g.d1 then .red else if s < g.d2 then .yellow else .green

/-- The points of a track line from j on: it stops at the first point that is not produced (R97). -/
def trackFrom (i : GuideInputs) (t : Option Turn) (right : Bool) : Nat → Nat → List GuidePoint
  | 0, _ => []
  | n + 1, j =>
    let s := (j * i.geometry.d4) / 15
    match screenPoint i t right s with
    | none => []
    | some p => ⟨p.1, p.2, bandAt i.geometry s⟩ :: trackFrom i t right n (j + 1)

/-- A track line, j = 0..15 (R97). -/
def trackLine (i : GuideInputs) (t : Option Turn) (right : Bool) : List GuidePoint := trackFrom i t right 16 0

/-- The bar between both corners' points at a distance; absent when either is not produced (R98, R99). DESIGN CHOICE:
its first end point, from which R100 rounds, is the LEFT corner's (log 41). -/
def barAt (i : GuideInputs) (t : Option Turn) (d : Nat) : Option GuideBar :=
  match screenPoint i t false d, screenPoint i t true d with
  | some l, some r => some ⟨l.1, l.2, r.1, r.2⟩
  | some _, none => none
  | none, _ => none

/-- The obstacle bar (R99). -/
def obstacleBar (i : GuideInputs) (t : Option Turn) : Option (Nat × GuideBar) :=
  match i.nearest with
  | none => none
  | some d => if d < i.geometry.d4 then (barAt i t d).map fun b => (d, b) else none

/-- The guide set of a computation's inputs (4.3 to 4.5): the next set. -/
def guideSetOf (i : GuideInputs) : GuideSet :=
  let t := turnOf i.geometry i.angle
  { kind := i.kind
    angle := i.angle
    turn := t.map fun x => (x.delta, x.rho)
    left := trackLine i t false
    right := trackLine i t true
    mark1 := barAt i t i.geometry.d1
    mark2 := barAt i t i.geometry.d2
    mark3 := barAt i t i.geometry.d3
    bar := obstacleBar i t
    clip := i.view }

/-! ## The pixels of a set (R100) -/

/-- The colour of a band. -/
def Band.color : Band → Argb
  | .red => ⟨255, 255, 0, 0⟩
  | .yellow => ⟨255, 255, 255, 0⟩
  | .green => ⟨255, 0, 255, 0⟩

/-- Whether a pixel lies in a rectangle. -/
def Rect.holds (r : Rect) (x y : Int) : Bool :=
  decide (r.x ≤ x) && decide (x < r.x + r.w) && decide (r.y ≤ y) && decide (y < r.y + r.h)

/-- Whether a stroke covers the pixel at major place a and minor place b, from (a1, b1) to (a2, b2). -/
def strokeOn (a1 b1 a2 b2 a b : Int) : Bool :=
  let n := (a2 - a1).natAbs
  let m := if a1 ≤ a2 then a - a1 else a1 - a
  if 0 ≤ m ∧ m ≤ n then
    let centre := b1 + (if n = 0 then 0 else roundDiv ((b2 - b1) * m) n)
    decide (centre - 2 ≤ b) && decide (b ≤ centre + 1)
  else false

/-- Whether a bar or segment covers a pixel: 4 pixels across its major axis (R100). -/
def GuideBar.covers (s : GuideBar) (x y : Int) : Bool :=
  if (s.y2 - s.y1).natAbs ≤ (s.x2 - s.x1).natAbs then strokeOn s.x1 s.y1 s.x2 s.y2 x y
  else strokeOn s.y1 s.x1 s.y2 s.x2 y x

/-- The segments of a track line, each with its colour (R97). -/
def segments : List GuidePoint → List (GuideBar × Band)
  | p :: q :: rest => (⟨p.x, p.y, q.x, q.y⟩, p.band) :: segments (q :: rest)
  | [_] => []
  | [] => []

/-- A mark's stroke, when it is present. -/
def markStroke (b : Option GuideBar) (c : Band) : List (GuideBar × Band) :=
  match b with
  | none => []
  | some b => [(b, c)]

/-- Everything a set draws, in drawing order (R100). -/
def GuideSet.strokes (g : GuideSet) : List (GuideBar × Band) :=
  segments g.left ++ segments g.right ++ markStroke g.mark1 .red ++ markStroke g.mark2 .yellow ++
  markStroke g.mark3 .green ++ markStroke (g.bar.map (·.2)) .red

/-- The colour a set gives a pixel, the last stroke over it; none outside the set's clip (R100). -/
def GuideSet.pixel (g : GuideSet) (x y : Int) : Option Argb :=
  if g.clip.holds x y then
    g.strokes.foldl (fun c s => if s.1.covers x y then some s.2.color else c) none
  else none

/-! ## The engine's state (4.1, 4.3) -/

/-- The kind of set a freshness state gives (R82). -/
def Freshness.kind : Freshness → SetKind
  | .fresh => .live
  | .held => .held
  | .static => .static

/-- The angle a computation may use (R82). -/
def Guide.angle (g : Guide) : Int :=
  match g.freshness with
  | .static => 0
  | .fresh => (g.sample.map (·.angle)).getD 0
  | .held => (g.sample.map (·.angle)).getD 0

/-- The nearest distance of the sample. -/
def Guide.nearest (g : Guide) : Option Nat :=
  match g.sample with
  | none => none
  | some v => v.nearest

/-- The distance a computation may use: only when FRESH (R82, R86). -/
def Guide.freshNearest (g : Guide) : Option Nat := if g.freshness = .fresh then g.nearest else none

/-- The reference count in the guide status (R200), written at each sample taken (R101). -/
def referenceOffset : Nat := 0x8B04

/-- A vehicle record handed to the engine (R81). -/
def takeVehicle (bytes : List Byte) (s : State) : State :=
  let count := wordAt bytes 0
  match s.guide.reference with
  | none => s.onGuide fun g => { g with reference := some count }
  | some r =>
    if r = count then s
    else
      let v := sampleOf bytes
      let s := noteWritten [referenceOffset] <| s.onGuide fun g =>
        { g with
          sample := some v
          reference := some count
          referenceShown := some count
          samplesTaken := g.samplesTaken + 1
          freshness := .fresh
          timer := some (msSamples 300) }
      reportDistance true v.nearest s

/-- The freshness timer expires (R82). -/
def expireFreshness (s : State) : State :=
  match s.guide.freshness with
  | .fresh =>
    let s := s.onGuide fun g =>
      { g with freshness := .held, timer := some (msSamples 300), staleCount := g.staleCount + 1 }
    reportDistance false s.guide.nearest (requestInternal .sensingUnavailable s)
  | .held => s.onGuide fun g => { g with freshness := .static, timer := none }
  | .static => s

/-- A computation in flight is abandoned (R88). -/
def abandonComputation (g : Guide) : Guide :=
  if g.inFlight.isSome then { g with inFlight := none, abandoned := g.abandoned + 1 } else g

/-- Guide demand (R86). -/
def Guide.demand (g : Guide) : Bool := g.viewDemand || g.cameraDrawn

/-- The inputs a computation takes (R86). -/
def inputsOf (s : State) (geometry : Geometry) : GuideInputs :=
  { kind := s.guide.freshness.kind
    angle := s.guide.angle
    nearest := s.guide.freshNearest
    geometry := geometry
    camW := s.capture.record.width
    camH := s.capture.record.height
    view := s.capture.record.view }

/-- A kept frame start code at the engine (R86, R88). -/
def guideFrameCode (s : State) : State :=
  let s := s.onGuide abandonComputation
  match s.capture.geometry with
  | none => s
  | some geo => if s.guide.demand then s.onGuide fun g => { g with inFlight := some (inputsOf s geo) } else s

/-- What the guide status says of a set until the next completion (R101). -/
def GuideSet.summary (g : GuideSet) : GuideSummary :=
  ⟨g.left.length, g.right.length, g.mark1.isSome, g.mark2.isSome, g.mark3.isSome, g.bar.map (·.1)⟩

/-- The fields of the guide status that a discard of the shown set writes: its kind, angle, δ and ρ (R101). -/
def shownSetOffsets : List Nat := [0x8B10, 0x8B14, 0x8B18, 0x8B1C]

/-- The fields that only a completion writes: point counts, marks, the bar and its D (R101). -/
def summaryOffsets : List Nat := [0x8B20, 0x8B24, 0x8B28, 0x8B2C, 0x8B30]

/-- A computation completes (R87, R101). -/
def completeComputation (s : State) : State :=
  match s.guide.inFlight with
  | none => s
  | some i =>
    noteWritten (shownSetOffsets ++ summaryOffsets) (s.onGuide fun g =>
      { g with
        shown := some (guideSetOf i)
        summary := (guideSetOf i).summary
        inFlight := none
        completed := g.completed + 1 })

/-- DETACH, link reset and a successful CAMERA_LOAD abandon the computation and drop the shown set (R88, R101). DESIGN
CHOICE: a FRONT frame in progress goes on with the set it has taken (R89, log 66), and the fields of the shown set are
written also when there is none to drop (log 67). -/
def dropGuideSets (s : State) : State :=
  noteWritten shownSetOffsets (s.onGuide fun g => { abandonComputation g with shown := none })

/-- DETACH at the engine (R84). -/
def detachGuide (s : State) : State :=
  let s := dropGuideSets (s.onGuide fun g =>
    { g with sample := none, reference := none, freshness := .static, timer := none })
  reportDistance false none s

end Sys2Proof.Machine
end

