-- ==== Sys2Proof/Machine/Reverse.lean ====
section
/-! DEFINITION. The reverse view controller (chapter 7, 7.1 and 7.2): the debounce of REVERSE_IN, the view states, the
delivery mark and the outputs to the neighbours. The changes of the need for the camera that follow from the camera hold
are made in Machine/Capture.lean. -/

namespace Sys2Proof.Machine

/-! ## Outputs (R145) -/

/-- Camera hold, reverse hold and guide demand are set in every state but OFF. -/
def View.held : View → Bool
  | .off => false
  | .waking => true
  | .showing => true
  | .unavailable => true
  | .linger => true

/-- The reverse mute. -/
def View.mutes : View → Bool
  | .off => false
  | .waking => false
  | .showing => true
  | .unavailable => true
  | .linger => true

/-- The reverse showing input of the chime engine. -/
def View.shows : View → Bool
  | .off => false
  | .waking => false
  | .showing => true
  | .unavailable => false
  | .linger => true

/-- The outputs of the present state are handed to their owners (R145); a value that is unchanged changes nothing. -/
def handOutputs (s : State) : State :=
  let v := s.reverse.view
  let s := s.onCapture fun c => { c with hold := v.held }
  let s := s.onMixer fun m => { m with reverseHold := v.held, muteHanded := v.mutes }
  let s := s.onGuide fun g => { g with viewDemand := v.held }
  handShowing v.shows s

/-- Entry into UNAVAILABLE counts it and asks for the chime (R149); entry into OFF stops the timers (R153). -/
def enterView (v : View) (s : State) : State :=
  match v with
  | .off => s.onReverse fun r => { r with deadline := none, lingerTimer := none }
  | .unavailable =>
    requestInternal .cameraUnavailable (s.onReverse fun r => { r with unavailables := r.unavailables + 1 })
  | .waking => s
  | .showing => s
  | .linger => s

/-- The reverse view state and the delivery mark in the reverse status (R200). -/
def viewOffsets : List Nat := [0x8E04, 0x8E08]

/-- The reverse view state becomes v: its outputs are handed over, the leave mark of DIRECT follows the wanted mode
(R161), the state is written with the delivery mark, and REVERSE_CHANGE is set (R145). -/
def setView (v : View) (s : State) : State :=
  let s := s.onReverse fun r => { r with view := v }
  setFlag .reverseChange (noteWritten viewOffsets (refreshLeave (enterView v (handOutputs s))))

/-! ## Delivery, loss, assertion and release -/

/-- Whole milliseconds since the recorded assertion (R148). -/
def sinceAssertion (s : State) : Nat := (s.audio.now - s.reverse.assertedAt) / 48

/-- WAKING ends with a picture (R148). -/
def showFromWaking (s : State) : State :=
  let ms := sinceAssertion s
  setView .showing (s.onReverse fun r => { r with deadline := none, lastShow := some ms })

/-- A delivery event at the view (R147 to R152). -/
def viewDelivery (s : State) : State :=
  match s.reverse.view with
  | .waking => showFromWaking s
  | .unavailable => setView .showing s
  | .off => s
  | .showing => s
  | .linger => s

/-- A delivery event sets the delivery mark (R146). -/
def deliver (s : State) : State := viewDelivery (s.onReverse fun r => { r with delivered := true })

/-- The delivery mark is cleared at an entry of the capture state into LOST, FAULT or OFF (R146). -/
def undeliver (s : State) : State := s.onReverse fun r => { r with delivered := false }

/-- The capture state enters LOST or FAULT (R148, R150, R152). -/
def viewLost (s : State) : State :=
  match s.reverse.view with
  | .waking => setView .unavailable (s.onReverse fun r => { r with deadline := none })
  | .showing => setView .unavailable s
  | .off => s
  | .unavailable => s
  | .linger => s

/-- An assertion in OFF (R147). -/
def engage (s : State) : State :=
  let s := setView .waking (s.onReverse fun r =>
    { r with
      assertedAt := s.audio.now
      engagements := r.engagements + 1
      deadline := some (msSamples s.capture.record.deadline) })
  if s.reverse.delivered then showFromWaking s else s

/-- An assertion (R147, R152). -/
def assertReverse (s : State) : State :=
  match s.reverse.view with
  | .off => engage s
  | .linger =>
    let s := s.onReverse fun r => { r with lingerTimer := none }
    if s.reverse.delivered then setView .showing s else setView .unavailable s
  | .waking => s
  | .showing => s
  | .unavailable => s

/-- A release in SHOWING or UNAVAILABLE (R151). -/
def beginLinger (s : State) : State :=
  let t := s.capture.record.linger
  if t = 0 then setView .off s
  else setView .linger (s.onReverse fun r => { r with lingerTimer := some (msSamples t) })

/-- A release (R148, R151). -/
def releaseReverse (s : State) : State :=
  match s.reverse.view with
  | .waking => setView .off s
  | .showing => beginLinger s
  | .unavailable => beginLinger s
  | .off => s
  | .linger => s

/-! ## Timers and CAMERA_OFF -/

/-- The raw level of REVERSE_IN is now `engaged` (R144). -/
def rawChange (engaged : Bool) (s : State) : State :=
  if s.reverse.raw = engaged then s
  else s.onReverse fun r =>
    { r with raw := engaged, debounce := if engaged = r.level then none else some (msSamples 20) }

/-- The debounced level takes the raw level (R144), without the change of the camera's need. -/
def takeLevel (s : State) : State :=
  if s.reverse.debounce.isNone then s
  else
    let s := s.onReverse fun r => { r with debounce := none, level := r.raw }
    if s.reverse.level then assertReverse s else releaseReverse s

/-- The deadline expires (R148). -/
def expireDeadline (s : State) : State :=
  if s.reverse.deadline.isSome ∧ s.reverse.view = .waking then
    setView .unavailable (s.onReverse fun r => { r with deadline := none, expiries := r.expiries + 1 })
  else s

/-- The linger timer expires (R152), without the change of the camera's need. -/
def endLinger (s : State) : State :=
  if s.reverse.lingerTimer.isSome ∧ s.reverse.view = .linger then setView .off s else s

/-- CAMERA_OFF taken, at the view (R152), without the change of the camera's need. -/
def viewCameraOff (s : State) : State :=
  if s.reverse.view = .linger then setView .off s else s

end Sys2Proof.Machine
end

