-- ==== Sys2Proof/Machine/Film.lean ====
section
/-! DEFINITION. The film timing unit (chapter 2): the stream asks, the card intake, the assembly of sound blocks, the
selection of frame cards and their release. -/

namespace Sys2Proof.Machine

/-! ## Held cards -/

/-- The held frame card with an index. -/
def Film.frameAt (f : Film) (k : Word) : Option FrameCard := f.frames.find? fun c => c.index == k

/-- The lists' counts by kind. -/
def Film.posted (f : Film) : ListKind → Word
  | .frames => f.framePosted
  | .sound => f.soundPosted

def Film.released (f : Film) : ListKind → Word
  | .frames => f.frameReleased
  | .sound => f.soundReleased

def Film.cursor (f : Film) : ListKind → Word
  | .frames => f.frameCursor
  | .sound => f.soundCursor

def Film.cardReading (f : Film) : ListKind → Bool
  | .frames => f.frameReading
  | .sound => f.soundReading

def Film.setPosted (f : Film) (k : ListKind) (v : Word) : Film :=
  match k with
  | .frames => { f with framePosted := v }
  | .sound => { f with soundPosted := v }

def Film.setReading (f : Film) (k : ListKind) (b : Bool) : Film :=
  match k with
  | .frames => { f with frameReading := b }
  | .sound => { f with soundReading := b }

def Film.cardFaulted (f : Film) : ListKind → Bool
  | .frames => f.frameFaulted
  | .sound => f.soundFaulted

def Film.setFaulted (f : Film) (k : ListKind) (b : Bool) : Film :=
  match k with
  | .frames => { f with frameFaulted := b }
  | .sound => { f with soundFaulted := b }

/-- The size of a list (9.8). -/
def ListKind.size : ListKind → Word
  | .frames => 16
  | .sound => 32

/-- The bytes of a card and the offset of a list (11.4). -/
def ListKind.cardSize : ListKind → Nat
  | .frames => 64
  | .sound => 32

def listStart (st : Stream) : ListKind → Nat
  | .frames => match st with | .f0 => 0x3000 | .f1 => 0x3400
  | .sound => match st with | .f0 => 0x3800 | .f1 => 0x3C00

/-- The list's place in AREA_FAULT (R194): F0 frames, F1 frames, F0 sound, F1 sound. DESIGN CHOICE: numbered from 0 in that
order (log 61). -/
def listPlace (st : Stream) : ListKind → Nat
  | .frames => streamSlot st
  | .sound => 2 + streamSlot st

/-! ## Card intake (R34 to R36, R189) -/

/-- The read of the card at the read cursor is made when it is posted, no card read of the list is on its way, and none
that faulted waits for its event (R34). -/
def requestCard (st : Stream) (k : ListKind) (s : State) : State :=
  let f := s.stream st
  if isAfter (f.posted k) (f.cursor k) && !f.cardReading k && !f.cardFaulted k then
    let slot := (f.cursor k).toNat % k.size.toNat
    makeRead (.card st k f.intake (f.cursor k)) (s.areaAddr (listStart st k + k.cardSize * slot)) k.cardSize
      (s.onStream st fun f => f.setReading k true)
  else s

/-- A posted count error (R189): counted, with AREA_FAULT. -/
def postedError (st : Stream) (k : ListKind) (s : State) : State :=
  let s := s.onPoller fun p =>
    match k with
    | .frames => { p with frameErrors := p.frameErrors.update st (· + 1) }
    | .sound => { p with soundErrors := p.soundErrors.update st (· + 1) }
  areaFault .postedCount (wordOfNat (listPlace st k)) s

/-- A posted count read by the poller is checked and handed (R189, R34). -/
def handPosted (st : Stream) (k : ListKind) (v : Word) (s : State) : State :=
  let f := s.stream st
  if isBefore v (f.posted k) then postedError st k s
  else if isAfter v (f.released k + k.size) then
    postedError st k (requestCard st k (s.onStream st fun f => f.setPosted k (f.released k + k.size)))
  else requestCard st k (s.onStream st fun f => f.setPosted k v)

/-- Both counts of a kind (11.2). -/
def handPostedCounts (k : ListKind) (bytes : List Byte) (s : State) : State :=
  handPosted .f1 k (wordAt bytes 4) (handPosted .f0 k (wordAt bytes 0) s)

/-- A frame card is held (R35). -/
def holdFrameCard (st : Stream) (index : Word) (bytes : List Byte) (s : State) : State :=
  let c := frameCardOf bytes index
  let good := frameCardGood c
  let s := s.onStream st fun f =>
    { f with
      frames := f.frames ++ [{ c with good := good }]
      frameCursor := f.frameCursor + 1
      badFrames := if good then f.badFrames else f.badFrames + 1 }
  if good then s else setFlag .filmEvent s

/-- A sound card is held (R36). -/
def holdSoundCard (st : Stream) (index : Word) (bytes : List Byte) (s : State) : State :=
  let c := soundCardOf bytes index
  let good := soundCardGood c
  let s := s.onStream st fun f =>
    { f with
      sounds := f.sounds ++ [{ c with good := good }]
      soundCursor := f.soundCursor + 1
      badSounds := if good then f.badSounds else f.badSounds + 1 }
  if good then s else setFlag .filmEvent s

/-- A card read completes (R34): the card is held, or discarded when the read is from before a STOP (R33), and the next
read is made. -/
def cardDone (st : Stream) (k : ListKind) (intake : Nat) (index : Word) (bytes : List Byte) (s : State) : State :=
  let held := decide ((s.stream st).intake = intake)
  let s := s.onStream st fun f => f.setReading k false
  requestCard st k (if held then
      (match k with
        | .frames => holdFrameCard st index bytes s
        | .sound => holdSoundCard st index bytes s)
    else s)

/-- A card read ends with a fault (R34): the cursor stays, and no card of the list is read before the next event at which
the poller reads its posted count. DESIGN CHOICE: so also after the fault of a read made before a STREAM_STOP (R33,
log 53). -/
def cardFault (st : Stream) (k : ListKind) (s : State) : State :=
  s.onStream st fun f => (f.setReading k false).setFaulted k true

/-- The event at which the poller reads a kind's counts is where a faulted card is read again (R34). DESIGN CHOICE: at once
behind the read of those counts, whether or not that is made at this event, and F0's card before F1's (log 64). -/
def retryCards (k : ListKind) (s : State) : State :=
  let again := fun (st : Stream) (s : State) => requestCard st k (s.onStream st fun f => f.setFaulted k false)
  again .f1 (again .f0 s)

/-! ## The stream state (R51) -/

/-- Where a stream's status begins (R200). -/
def streamStatus : Stream → Nat
  | .f0 => 0x8400
  | .f1 => 0x8500

/-- The stream state and the clock mode in the stream's status. -/
def stateOffsets (st : Stream) : List Nat := [streamStatus st, streamStatus st + 4]

/-- The stream state becomes v. A change writes it with the clock mode (R51). -/
def setStreamState (st : Stream) (v : StreamState) (s : State) : State :=
  if (s.stream st).state = v then s else noteWritten (stateOffsets st) (s.onStream st fun f => { f with state := v })

/-! ## STREAM_STOP and DETACH (R33, R49) -/

/-- A layer of the stopped stream contributes nothing more (R33). -/
def Layer.dropFilm (st : Stream) (l : Layer) : Layer :=
  match l.source with
  | .film x _ => if x = st then { l with dropped := true, rows := [], prev := none } else l
  | .twin x => if x = st then { l with dropped := true, prev := none } else l
  | .fill _ => l
  | .picture _ => l
  | .store _ => l
  | .direct => l
  | .black => l
  | .notice => l
  | .guides => l
  | .poor => l

/-- Whether a fetch of a frame is for a layer that is still drawn. -/
def Frame.wants (f : Frame) (r : RowFetch) : Bool :=
  match f.layers[r.layer]? with
  | some l => !l.dropped
  | none => false

/-- The stopped stream leaves a frame in progress: its layers and their fetches still to be made. -/
def Frame.dropFilm (st : Stream) (f : Frame) : Frame :=
  let g := { f with layers := f.layers.map (Layer.dropFilm st) }
  { g with plan := g.plan.filter g.wants }

/-- The stopped stream leaves every display. Requests of the shared film frame that are in flight are of a serial that is
past: what they bring is discarded. -/
def dropFilmLayers (st : Stream) (s : State) : State :=
  let s := { s with composers := s.composers.map fun c => { c with frame := c.frame.map (Frame.dropFilm st) } }
  if s.twin.stream = st then { s with twin := { s.twin with serial := s.twin.serial + 1, rows := [], plan := [] } } else s

/-- Whether a request reads samples of a stream. -/
def Request.samplesOf (st : Stream) (r : Request) : Bool :=
  match r.work with
  | .read (.soundSamples x _ _) _ => x == st
  | _ => false

/-- What STREAM_STOP gives up in the stream (R33); state, posted counts and cursors are set by the caller. A card read on its
way goes on to its end, and the next one of its list waits for that (R33, R34). DESIGN CHOICE: a card read that faulted
before the STOP delays the list's card reads no more; it goes with the cards given up (log 69). -/
def Film.clear (f : Film) : Film :=
  { f with
    clock := 0
    startPts := none
    frames := []
    frameFaulted := false
    sounds := []
    soundFaulted := false
    headOffset := 0
    intake := f.intake + 1
    current := ⟨none, none, none⟩
    underrun := ⟨false, false, false⟩
    block := [] }

/-- The two released counts of a stream in its status (R200). -/
def releasedOffsets (st : Stream) : List Nat := [streamStatus st + 0x0C, streamStatus st + 0x10]

/-- A stream is stopped: its layers are dropped, its sample reads still to be presented are withdrawn (log 24), and its
released counts are written (R33). -/
def stopStream (st : Stream) (s : State) : State :=
  let s := dropFilmLayers st ((setStreamState st .stopped s).onStream st fun f =>
    { f.clear with
      frameReleased := f.framePosted
      frameCursor := f.framePosted
      soundReleased := f.soundPosted
      soundCursor := f.soundPosted })
  noteWritten (releasedOffsets st)
    { s with audio := { s.audio with queue := s.audio.queue.filter fun r => !r.samplesOf st } }

/-- DETACH and link reset at a stream (R49). -/
def detachStream (st : Stream) (s : State) : State :=
  (stopStream st s).onStream st fun f =>
    { f with
      waitingPlay := none
      frameReading := false
      frameReleased := 0
      framePosted := 0
      frameCursor := 0
      soundReading := false
      soundReleased := 0
      soundPosted := 0
      soundCursor := 0 }

/-! ## Stream asks (R27 to R33) -/

/-- The superseded sequence in a stream's status (R200). -/
def supersededOffset (st : Stream) : Nat := streamStatus st + 0x44

/-- A waiting PLAY is superseded (R28). -/
def supersede (st : Stream) (s : State) : State :=
  match (s.stream st).waitingPlay with
  | none => s
  | some q =>
    setStreamState st .stopped (noteWritten [supersededOffset st]
      (writeResult (streamSlot st) .superseded (s.onStream st fun f =>
        { f with superseded := some q, waitingPlay := none, clock := 0, startPts := none })))

/-- The clock mode of a parameter word. -/
def clockModeOf (w : Word) : ClockMode := if w = 1 then .free else .sound

/-- STREAM_PLAY taken, its fields checked, no PLAY waiting (R29, R31). DESIGN CHOICE: a block that a STREAM_PAUSE has left
to go on to its end (R32) still does when the stream is resumed within it (log 65). -/
def playStream (st : Stream) (a : Ask) (s : State) : State :=
  match (s.stream st).state with
  | .stopped =>
    takeAsk (streamSlot st) a.sequence .empty (setStreamState st .priming (s.onStream st fun f =>
      { f with
        startPts := some (a.param 0)
        mode := clockModeOf (a.param 1)
        waitingPlay := some a.sequence }))
  | .paused => takeAsk (streamSlot st) a.sequence .done (setStreamState st .playing s)
  | .playing => takeAsk (streamSlot st) a.sequence .refusedState s
  | .starved => takeAsk (streamSlot st) a.sequence .refusedState s
  | .priming => takeAsk (streamSlot st) a.sequence .refusedState s

/-- STREAM_PAUSE taken, its fields checked, no PLAY waiting (R32). -/
def pauseStream (st : Stream) (a : Ask) (s : State) : State :=
  match (s.stream st).state with
  | .playing => takeAsk (streamSlot st) a.sequence .done (setStreamState st .paused s)
  | .starved => takeAsk (streamSlot st) a.sequence .done (setStreamState st .paused s)
  | .stopped => takeAsk (streamSlot st) a.sequence .refusedState s
  | .paused => takeAsk (streamSlot st) a.sequence .refusedState s
  | .priming => takeAsk (streamSlot st) a.sequence .refusedState s

/-- Whether a stream ask is refused for its fields (R27). -/
def streamAskBad (a : Ask) : Bool :=
  if a.code = 1 then decide (1 < (a.param 1).toNat) || a.anyFrom 2
  else if a.code = 2 ∨ a.code = 3 then a.anyFrom 0
  else true

/-- An ask taken from a stream's slot (R27, R28). -/
def takeStreamAsk (st : Stream) (a : Ask) (s : State) : State :=
  let s := supersede st s
  if streamAskBad a then takeAsk (streamSlot st) a.sequence .refusedField s
  else if a.code = 1 then playStream st a s
  else if a.code = 2 then pauseStream st a s
  else takeAsk (streamSlot st) a.sequence .done (stopStream st s)

/-! ## Block assembly (R37 to R42) -/

/-- An assembly in progress: the places filled, the runs of samples taken (first place, address, count), the clock c,
the held cards, the head offset, the cards released at once, and whether the list ran dry. -/
structure Assembly where
  places : List Place
  reads : List (Nat × Addr × Nat)
  clock : Word
  sounds : List SoundCard
  head : Nat
  released : Nat
  dry : Bool
deriving DecidableEq, Repr

/-- The cards with a done mark, which stand first, and the rest. -/
def doneCards (l : List SoundCard) : List SoundCard := l.takeWhile (·.done)
def liveCards (l : List SoundCard) : List SoundCard := l.dropWhile (·.done)

/-- A bad head card, or one skipped whole, is released at once when no held card carries a done mark, and given one
otherwise (R38). -/
def Assembly.retire (a : Assembly) (card : SoundCard) (rest : List SoundCard) : Assembly :=
  let done := doneCards a.sounds
  if done.isEmpty then { a with sounds := rest, head := 0, released := a.released + 1 }
  else { a with sounds := done ++ { card with done := true } :: rest, head := 0 }

/-- The places that remain. -/
def Assembly.room (a : Assembly) : Nat := 256 - a.places.length

/-- One act of the filling on the head card (R38). -/
def Assembly.act (a : Assembly) (card : SoundCard) (rest : List SoundCard) : Assembly :=
  let ahead := (card.pts - a.clock).toNat
  if !card.good then a.retire card rest
  else if a.head = 0 ∧ ahead ≠ 0 ∧ ahead < 2147483648 then
    let n := min ahead a.room
    { a with places := a.places ++ List.replicate n Place.silence, clock := a.clock + wordOfNat n }
  else if a.head = 0 ∧ ahead ≠ 0 then
    let late := (a.clock - card.pts).toNat
    if card.count.toNat ≤ late then a.retire card rest else { a with head := late }
  else
    let n := min (card.count.toNat - a.head) a.room
    let a' := { a with
      places := a.places ++ List.replicate n Place.want
      reads := a.reads ++ [(a.places.length, card.addr + BitVec.ofNat 64 (4 * a.head), n)]
      clock := a.clock + wordOfNat n }
    if card.count.toNat ≤ a.head + n then
      { a' with sounds := doneCards a.sounds ++ { card with done := true } :: rest, head := 0 }
    else { a' with head := a.head + n }

/-- The filling of the 256 places (R38, R39). -/
def assemble : Nat → Assembly → Assembly
  | 0, a => a
  | fuel + 1, a =>
    if a.room = 0 then a
    else
      match liveCards a.sounds with
      | [] => { a with dry := true }
      | card :: rest => assemble fuel (a.act card rest)

/-- The reads of the samples taken into a block (R42, R166). -/
def sampleReads (st : Stream) (serial : Nat) (runs : List (Nat × Addr × Nat)) : List Request :=
  runs.flatMap fun r =>
    (requestsOf r.2.1 (4 * r.2.2)).map fun q =>
      ⟨.audio, q.1, .read (.soundSamples st serial (r.1 + (q.1 - r.2.1).toNat / 4)) q.2⟩

/-- The sound list release of a stream by n cards. -/
def Film.releaseSounds (f : Film) (n : Nat) : Film := { f with soundReleased := f.soundReleased + wordOfNat n }

/-- A block is assembled in SOUND mode, with its reads at the end of the audio fetcher's queue (R38, R39, R42). -/
def assembleBlock (st : Stream) (s : State) : State :=
  let f := s.stream st
  let a := assemble (2 * f.sounds.length + 2) ⟨[], [], f.clock, f.sounds, f.headOffset, 0, false⟩
  let s := s.onStream st fun f =>
    { f.releaseSounds a.released with
      block := a.places
      clock := a.clock
      sounds := a.sounds
      headOffset := a.head
      starves := if a.dry then f.starves + 1 else f.starves }
  let s := { s with audio := { s.audio with queue := s.audio.queue ++ sampleReads st s.audio.serial a.reads } }
  if a.dry then setFlag .filmEvent (setStreamState st .starved s) else s

/-- Step 1 of R37: the cards with a done mark are released. -/
def releaseDone (st : Stream) (s : State) : State :=
  s.onStream st fun f => { f.releaseSounds (doneCards f.sounds).length with sounds := liveCards f.sounds }

/-- Whether a PRIMING stream may play (R30). -/
def Film.primed (f : Film) : Bool :=
  f.frames.any (·.good) && (f.mode == .free || f.sounds.any (·.good))

/-- Step 2 of R37: priming ends (R30). -/
def prime (st : Stream) (s : State) : State :=
  let f := s.stream st
  if f.state = .priming ∧ f.primed then
    writeResult (streamSlot st) .done (setStreamState st .playing (s.onStream st fun f =>
      { f with clock := f.startPts.getD 0, startPts := none, waitingPlay := none }))
  else s

/-- Step 3 of R37: a STARVED stream with a head card returns to PLAYING (R40). -/
def unstarve (st : Stream) (s : State) : State :=
  let f := s.stream st
  if f.state = .starved ∧ (liveCards f.sounds).isEmpty = false then setStreamState st .playing s else s

/-- Step 4 of R37: the next block of a PLAYING stream, silence in any other state; in FREE mode the held sound cards go
(R41). -/
def nextBlock (st : Stream) (s : State) : State :=
  let f := s.stream st
  let s := s.onStream st fun f => { f with block := [], blockMissed := false }
  match f.mode with
  | .sound => if f.state = .playing then assembleBlock st s else s
  | .free =>
    if f.state = .playing ∨ f.state = .paused ∨ f.state = .priming then
      s.onStream st fun f =>
        { f.releaseSounds f.sounds.length with
          sounds := []
          headOffset := 0
          clock := if f.state = .playing then f.clock + 256 else f.clock }
    else s

/-! ## Release of frame cards (R47, R48) -/

/-- Whether a card is current on some display. -/
def Film.isCurrent (f : Film) (k : Word) : Bool :=
  f.current.front == some k || f.current.rearL == some k || f.current.rearR == some k

/-- Whether the oldest held card may be released (R47). -/
def Film.mayRelease (f : Film) (c : FrameCard) : Bool :=
  !c.good ||
  (!f.isCurrent c.index &&
    match f.frameAt (c.index + 1) with
    | none => false
    | some n => !n.good || notAfter n.pts f.clock)

/-- The release of frame cards, repeated (R47), with the dropped count (R48). -/
def releaseFrames : Nat → Film → Film
  | 0, f => f
  | fuel + 1, f =>
    match f.frames with
    | [] => f
    | c :: rest =>
      if f.mayRelease c then
        releaseFrames fuel
          { f with
            frames := rest
            frameReleased := f.frameReleased + 1
            dropped := if !c.good || !c.shown then f.dropped + 1 else f.dropped }
      else f

/-- R47 at an event: only while PLAYING, PAUSED or STARVED. -/
def Film.release (f : Film) : Film :=
  match f.state with
  | .playing => releaseFrames f.frames.length f
  | .paused => releaseFrames f.frames.length f
  | .starved => releaseFrames f.frames.length f
  | .stopped => f
  | .priming => f

/-- The release of both streams. -/
def releaseBoth (s : State) : State := { s with film := s.film.map Film.release }

/-- The media clock of a stream in its status (R200). -/
def clockOffset (st : Stream) : Nat := streamStatus st + 8

/-- One stream at an audio block end: the six steps of R37, the clock written whether or not it has moved. -/
def streamBlockEnd (st : Stream) (s : State) : State :=
  let s := nextBlock st (unstarve st (prime st (releaseDone st s)))
  noteWritten [clockOffset st] (s.onStream st fun f => { f.release with clockShown := f.release.clock })

/-! ## Selection (R43 to R46) -/

/-- Whether a card is at or after the place selection starts from (R44). -/
def Film.isCandidate (f : Film) (d : Display) (t : Word) (c : FrameCard) : Bool :=
  c.good && atOrAfter c.index ((f.current.get d).getD f.frameReleased) && notAfter c.pts t

/-- The candidate of highest index, the held cards being in index order. -/
def Film.selected (f : Film) (d : Display) (t : Word) : Option FrameCard :=
  (f.frames.filter (f.isCandidate d t)).getLast?

/-- A card becomes a display's current card (R44). -/
def Film.makeCurrent (f : Film) (d : Display) (c : FrameCard) : Film :=
  { f with
    underrun := f.underrun.update d fun u => u && f.current.get d == some c.index
    current := f.current.update d fun _ => some c.index
    frames := f.frames.map fun x => if x.index = c.index then { x with shown := true } else x }

/-- The selection of a display (R44). -/
def Film.select (f : Film) (d : Display) (t : Word) : Film :=
  match f.selected d t with
  | none => f
  | some c => f.makeCurrent d c

/-- Whether a video underrun is counted after selection (R46). -/
def Film.runsUnder (f : Film) (d : Display) (t : Word) : Bool :=
  match f.current.get d with
  | none => false
  | some k =>
    !f.underrun.get d && !isBefore (k + 1) f.framePosted &&
    match f.frameAt k with
    | none => false
    | some c => notAfter (c.pts + c.duration) t

/-- A video underrun (R46). -/
def countUnderrun (st : Stream) (d : Display) (s : State) : State :=
  setFlag .filmEvent (s.onStream st fun f =>
    { f with underruns := f.underruns + 1, underrun := f.underrun.update d fun _ => true })

/-- The display gives up its card of a stream (R43). -/
def Film.giveUp (f : Film) (d : Display) : Film :=
  { f with current := f.current.update d fun _ => none, underrun := f.underrun.update d fun _ => false }

/-- A display's current card and its host tag in a stream's status (R200). -/
def cardOffsets (st : Stream) (d : Display) : List Nat :=
  let off := streamStatus st + 4 * displayIndex d
  [off + 0x14, off + 0x20]

/-- A stream's current card at a frame start of a display (R43 to R46); t is the display's time. -/
def selectCard (st : Stream) (d : Display) (shows : Bool) (lead : Nat) (s : State) : State :=
  let f := s.stream st
  let t := f.clock + wordOfNat lead
  if !shows then s.onStream st fun f => f.giveUp d
  else
    match f.state with
    | .playing =>
      let s := s.onStream st fun f => f.select d t
      if (s.stream st).runsUnder d t then countUnderrun st d s else s
    | .paused => if (f.current.get d).isNone then s.onStream st fun f => f.select d t else s
    | .starved => if (f.current.get d).isNone then s.onStream st fun f => f.select d t else s
    | .stopped => s.onStream st fun f => f.giveUp d
    | .priming => s.onStream st fun f => f.giveUp d

/-- A stream at a frame start of a display: the selection, and the current card and its tag written when the card has
changed (R51). -/
def streamFrameStart (st : Stream) (d : Display) (shows : Bool) (lead : Nat) (s : State) : State :=
  let t := selectCard st d shows lead s
  if (t.stream st).current.get d = (s.stream st).current.get d then t else noteWritten (cardOffsets st d) t

/-! ## Samples (R42) -/

/-- The stereo samples of a completed read, from a place on, into the places still wanted. -/
def fillPlaces (block : List Place) (place : Nat) (bytes : List Byte) : List Place :=
  block.mapIdx fun i p =>
    if p = .want ∧ place ≤ i ∧ i < place + bytes.length / 4 then
      .got (halfAt bytes (4 * (i - place))) (halfAt bytes (4 * (i - place) + 2))
    else p

/-- The samples of a read, for the block being output only. -/
def samplesDone (st : Stream) (serial place : Nat) (bytes : List Byte) (s : State) : State :=
  if s.audio.serial = serial then s.onStream st fun f => { f with block := fillPlaces f.block place bytes } else s

/-- The sample of a stream at a place of the block being output. -/
def Film.sampleAt (f : Film) (n : Nat) : Stereo :=
  match f.block.getD n .silence with
  | .got l r => ⟨widen l, widen r⟩
  | .silence => ⟨0, 0⟩
  | .want => ⟨0, 0⟩

/-- A sample that has not come in time is silent, and its block counts one miss (R42). -/
def Film.outputAt (n : Nat) (f : Film) : Film :=
  if f.block.getD n .silence = .want ∧ f.blockMissed = false then
    { f with blockMissed := true, misses := f.misses + 1 }
  else f

end Sys2Proof.Machine
end

