-- ==== Sys2Proof/Machine/Compose.lean ====
section
/-! DEFINITION. Composition (1.4, 1.5, 7.5): the arithmetic of blending, conversion and scaling, the layers of a frame,
the source rows each output line needs, and the line a layer contributes. -/

namespace Sys2Proof.Machine

/-! ## Blending and conversion (R17, R18) -/

/-- A channel limited to 0..255. -/
def channel (x : Int) : Nat := (clampInt 0 255 x).toNat

/-- The effective alpha (R17). -/
def effectiveAlpha (opacity p : Nat) : Nat := (roundDiv ((opacity * p : Nat) : Int) 255).toNat

/-- One channel blended over the value beneath (R17). -/
def blendChannel (src dst alpha : Nat) : Nat := (src * alpha + dst * (255 - alpha) + 127) / 255

/-- A pixel blended over the result beneath it (R17). -/
def blend (opacity : Nat) (src : Argb) (dst : Rgb) : Rgb :=
  let a := effectiveAlpha opacity src.a
  ⟨blendChannel src.r dst.r a, blendChannel src.g dst.g a, blendChannel src.b dst.b a⟩

/-- The three sums of a YUV pixel (R18). -/
def fromYuv (y u v : Byte) : Argb :=
  let c : Int := y.toNat - 16
  let d : Int := u.toNat - 128
  let e : Int := v.toNat - 128
  ⟨255, channel ((298 * c + 409 * e + 128) / 256), channel ((298 * c - 100 * d - 208 * e + 128) / 256),
   channel ((298 * c + 516 * d + 128) / 256)⟩

/-- An RGB565 value widened (R18, 11.3). -/
def from565 (h : Half) : Argb :=
  let r := (h.extractLsb' 11 5).toNat
  let g := (h.extractLsb' 5 6).toNat
  let b := (h.extractLsb' 0 5).toNat
  ⟨255, r * 8 + r / 4, g * 4 + g / 16, b * 8 + b / 4⟩

def argbPixels : List Byte → List Argb
  | b :: g :: r :: a :: rest => ⟨a.toNat, r.toNat, g.toNat, b.toNat⟩ :: argbPixels rest
  | _ => []

def pixels565 : List Byte → List Argb
  | lo :: hi :: rest => from565 (hi ++ lo) :: pixels565 rest
  | _ => []

def yuyvPixels : List Byte → List Argb
  | y0 :: u :: y1 :: v :: rest => fromYuv y0 u v :: fromYuv y1 u v :: yuyvPixels rest
  | _ => []

def widePixels : List Byte → List Argb
  | v :: u :: y :: _ :: rest => fromYuv y u v :: widePixels rest
  | _ => []

/-- The pixels of a source line (R18, 11.3). -/
def rowPixels : PixFmt → List Byte → List Argb
  | .argb8888 => argbPixels
  | .rgb565 => pixels565
  | .yuyv => yuyvPixels
  | .wide32 => widePixels

/-- The bytes of a pixel of a source. -/
def PixFmt.size : PixFmt → Nat
  | .argb8888 => 4
  | .rgb565 => 2
  | .yuyv => 2
  | .wide32 => 4

/-! ## Scaling (R19) -/

/-- A source index limited to the source. -/
def sourceIndex (size : Nat) (i : Int) : Nat := (clampInt 0 ((size : Int) - 1) i).toNat

/-- The four weights of FULL at a phase. -/
def fullWeights (phase : Int) : Int × Int × Int × Int :=
  let a := roundDiv (32 * (-(phase * phase * phase) + 128 * (phase * phase) - 4096 * phase)) 262144
  let c := roundDiv (32 * (-3 * (phase * phase * phase) + 256 * (phase * phase) + 4096 * phase)) 262144
  let d := roundDiv (32 * (phase * phase * phase - 64 * (phase * phase))) 262144
  (a, 64 - a - c - d, c, d)

/-- The source position of a destination index, in 1/64 pixel. -/
def sourcePosition (size dest d : Nat) : Int := (((2 * d + 1) * size * 32 : Nat) : Int) / (dest : Int) - 32

/-- The taps of a destination index on an axis: source index and weight, the weights adding to 64. -/
def taps (level : Level) (size dest d : Nat) : List (Nat × Int) :=
  let p := sourcePosition size dest d
  let i := p / 64
  let phase := p % 64
  match level with
  | .full =>
    let w := fullWeights phase
    [(sourceIndex size (i - 1), w.1), (sourceIndex size i, w.2.1), (sourceIndex size (i + 1), w.2.2.1),
     (sourceIndex size (i + 2), w.2.2.2)]
  | .reduced => [(sourceIndex size i, 64 - phase), (sourceIndex size (i + 1), phase)]
  | .minimal => [(sourceIndex size ((((2 * d + 1) * size) / (2 * dest) : Nat) : Int), 64)]

/-- A weighted sum of channels. -/
def mixChannel (l : List (Nat × Int)) : Nat := channel (((l.map fun x => (x.1 : Int) * x.2).sum + 32) / 64)

/-- A weighted sum of pixels, each channel alike. -/
def mixPixels (l : List (Argb × Int)) : Argb :=
  ⟨mixChannel (l.map fun x => (x.1.a, x.2)), mixChannel (l.map fun x => (x.1.r, x.2)),
   mixChannel (l.map fun x => (x.1.g, x.2)), mixChannel (l.map fun x => (x.1.b, x.2))⟩

def clearPixel : Argb := ⟨0, 0, 0, 0⟩

/-- A source line scaled along the line, for n destination columns from `first` on. -/
def scaleLine (level : Level) (size dest first n : Nat) (src : List Argb) : List Argb :=
  (List.range n).map fun k =>
    mixPixels ((taps level size dest (first + k)).map fun t => (src.getD t.1 clearPixel, t.2))

/-- Scaled lines combined across lines. -/
def combineLines (n : Nat) (lines : List (List Argb × Int)) : List Argb :=
  (List.range n).map fun k => mixPixels (lines.map fun l => (l.1.getD k clearPixel, l.2))

/-! ## The layers of a frame -/

/-- The fitted rectangle of a LETTERBOX entry for a card (R13). -/
def letterbox (r : Rect) (cw ch : Nat) : Rect :=
  if cw * r.h ≤ ch * r.w then
    let w := (cw * r.h) / ch
    ⟨r.x + ((r.w : Int) - w) / 2, r.y, w, r.h⟩
  else
    let h := (ch * r.w) / cw
    ⟨r.x, r.y + ((r.h : Int) - h) / 2, r.w, h⟩

/-- Where a FILM entry draws a card (R13). -/
def filmRect (fit : Byte) (r : Rect) (cw ch : Nat) : Rect := if fit = 0 then r else letterbox r cw ch

/-- Whether a card meets the scale limits in a rectangle (R13). -/
def cardFits (dest : Rect) (cw ch : Nat) : Bool := scaleOk cw dest.w && scaleOk ch dest.h

/-- The pixels of a frame card. -/
def FrameCard.pixels (c : FrameCard) : Pixels :=
  ⟨c.addr, c.pitch.toNat, if c.format = 0 then .yuyv else .argb8888, 0, 0, c.width.toNat, c.height.toNat⟩

/-- The address of a store. -/
def Stores.get (s : Stores) : Nat → Addr
  | 0 => s.s0
  | 1 => s.s1
  | _ => s.s2

/-- The pixels of a camera store (3.6). -/
def storePixels (r : CameraRecord) (st : Stores) (n : Nat) : Pixels :=
  ⟨st.get n, r.pitch, if r.wide then .wide32 else .yuyv, 0, 0, r.width, r.height⟩

/-- The pixels of the newest published store, when there is one: at the place and of the camera size of the kept camera
record (3.6, R155). -/
def State.publishedPixels (s : State) : Option Pixels :=
  s.capture.record.stores.bind fun st => s.capture.published.map fun p => storePixels s.capture.record st p.store

/-- A layer with nothing fetched. -/
def plainLayer (source : LayerSource) (opacity : Nat) (dest clip : Rect) : Layer :=
  ⟨source, opacity, dest, clip, false, [], none, false⟩

/-- The kind order of R16. -/
def EntryBody.rank : EntryBody → Nat
  | .none => 0
  | .fill _ _ _ _ => 0
  | .picture _ _ _ _ _ _ _ => 1
  | .film _ _ => 2
  | .camera => 3
  | .unknown _ => 0

/-- The drawing place of an entry before its place in the bank. -/
def Entry.order (e : Entry) : Nat := e.z * 4 + e.body.rank

/-- An entry at its place in the drawing order, after those of the same order (R16). -/
def insertEntry (e : Entry) : List Entry → List Entry
  | [] => [e]
  | x :: rest => if e.order < x.order then e :: x :: rest else x :: insertEntry e rest

/-- The entries that are not bad in drawing order (R16). -/
def drawOrder (l : List Entry) : List Entry := (l.filter fun e => !e.bad).foldl (fun acc e => insertEntry e acc) []

/-- The entries of a display's shown bank. -/
def Composer.entries (c : Composer) : List Entry :=
  match c.shown with
  | none => []
  | some b => b.entries

/-- The display's current card of a stream (R15). -/
def State.currentCard (s : State) (st : Stream) (d : Display) : Option FrameCard :=
  match ((s.stream st).current.get d) with
  | none => none
  | some k => (s.stream st).frameAt k

/-- The format of a PICTURE's code. -/
def pictureFormat (code : Byte) : PixFmt := if code = 0 then .argb8888 else if code = 1 then .rgb565 else .yuyv

/-- The FILM layer of an entry for a card, none when the card fails the limits (R13). -/
def filmLayer (area : Rect) (e : Entry) (st : Stream) (fit : Byte) (shared : Bool) (c : FrameCard) : Option Layer :=
  let dest := filmRect fit e.rect c.width.toNat c.height.toNat
  if cardFits dest c.width.toNat c.height.toNat then
    some (plainLayer (if shared then .twin st else .film st c.pixels) e.opacity dest (dest.clip area))
  else none

/-- The layer of an entry that is not bad, in NORMAL mode (R11 to R15); none when it draws nothing. -/
def entryLayer (s : State) (d : Display) (area : Rect) (shared : Bool) (e : Entry) : Option Layer :=
  match e.body with
  | .none => none
  | .unknown _ => none
  | .fill a r g b => some (plainLayer (.fill ⟨a.toNat, r.toNat, g.toNat, b.toNat⟩) e.opacity e.rect (e.rect.clip area))
  | .picture a p f sx sy sw sh =>
    some (plainLayer (.picture ⟨a, p.toNat, pictureFormat f, sx.toNat, sy.toNat, sw.toNat, sh.toNat⟩) e.opacity e.rect
      (e.rect.clip area))
  | .film code fit =>
    match s.currentCard (streamOf code) d with
    | none => none
    | some c => filmLayer area e (streamOf code) fit shared c
  | .camera =>
    if s.capture.state = .capturing then
      match s.publishedPixels with
      | none => none
      | some p =>
        let view := s.capture.record.view
        some { plainLayer (.store p) e.opacity view (view.clip area) with withGuides := true }
    else none

/-- Whether a FILM entry's current card fails the limits in this frame (R13). -/
def filmFails (s : State) (d : Display) (e : Entry) : Bool :=
  match e.body with
  | .film code fit =>
    match s.currentCard (streamOf code) d with
    | none => false
    | some c => !cardFits (filmRect fit e.rect c.width.toNat c.height.toNat) c.width.toNat c.height.toNat
  | .none => false
  | .fill _ _ _ _ => false
  | .picture _ _ _ _ _ _ _ => false
  | .camera => false
  | .unknown _ => false

/-- The layers of a frame in NORMAL mode. -/
def normalLayers (s : State) (d : Display) (area : Rect) (shared : Bool) : List Layer :=
  ((drawOrder (s.composer d).entries).filterMap (entryLayer s d area shared)).filter fun l => !l.clip.empty

/-- The menu strip (R156). -/
def menuStrip (r : CameraRecord) (area : Rect) : Rect :=
  let y0 := max ((area.h : Int) - r.strip) ((r.viewY : Int) + r.viewH)
  ⟨0, y0, area.w, ((area.h : Int) - y0).toNat⟩

/-- A strip entry: PICTURE or FILL, cut to the strip (R156). -/
def stripLayer (s : State) (area : Rect) (e : Entry) : Option Layer :=
  let strip := (menuStrip s.capture.record area).clip area
  match e.body with
  | .fill _ _ _ _ => (entryLayer s .front area false e).map fun l => { l with clip := l.clip.clip strip }
  | .picture _ _ _ _ _ _ _ => (entryLayer s .front area false e).map fun l => { l with clip := l.clip.clip strip }
  | .film _ _ => none
  | .camera => none
  | .none => none
  | .unknown _ => none

/-- Whether the camera layer of a reverse stack is the notice picture (R157). -/
def State.showsNotice (s : State) : Bool :=
  s.reverse.view == .unavailable || (s.reverse.view == .linger && !s.reverse.delivered)

/-- The source of the camera layer of a reverse stack (R157). -/
def cameraSource (s : State) (direct : Option DirectFrame) : LayerSource :=
  if s.showsNotice then .notice
  else if s.frontView.mode = .direct then (if direct.isSome then .direct else .black)
  else
    match s.publishedPixels with
    | none => .black
    | some p => .store p

/-- Whether a camera layer is the camera image. -/
def LayerSource.isCamera : LayerSource → Bool
  | .store _ => true
  | .direct => true
  | .fill _ => false
  | .picture _ => false
  | .film _ _ => false
  | .twin _ => false
  | .black => false
  | .notice => false
  | .guides => false
  | .poor => false

/-- The reverse stack (R155 to R158). DESIGN CHOICE: a camera view rectangle wholly outside the active area leaves no
camera layer, and then no store is read (log 54). -/
def reverseLayers (s : State) (area : Rect) (direct : Option DirectFrame) : List Layer :=
  let view := s.capture.record.view
  let clip := view.clip area
  let strip := (drawOrder s.composers.front.entries).filterMap (stripLayer s area)
  let camera := cameraSource s direct
  let guide := if camera.isCamera then
      (if s.guide.shown.isSome then [plainLayer .guides 255 view clip] else []) ++
      (if s.capture.poor then [plainLayer .poor 255 view clip] else [])
    else []
  (strip ++ [plainLayer camera 255 view clip] ++ guide).filter fun l => !l.clip.empty

/-! ## The source rows lines need (R19, R20) -/

/-- The fetched pixels of a source. -/
def LayerSource.pixels : LayerSource → Option Pixels
  | .picture p => some p
  | .film _ p => some p
  | .store p => some p
  | .fill _ => none
  | .twin _ => none
  | .direct => none
  | .black => none
  | .notice => none
  | .guides => none
  | .poor => none

/-- The bytes of a source row. -/
def Pixels.rowBytes (p : Pixels) : Nat := p.sw * p.format.size

/-- The host address of a byte of a source row. -/
def Pixels.rowAddr (p : Pixels) (row offset : Nat) : Addr :=
  p.addr + BitVec.ofNat 64 ((p.sy + row) * p.pitch + p.sx * p.format.size + offset)

/-- The rows the taps of an output line reach, lowest first. -/
def tapRows (level : Level) (size : Nat) (dest : Rect) (y : Int) : List Nat :=
  ((taps level size dest.h (y - dest.y).toNat).map (·.1)).eraseDups

/-- Whether a layer covers an output line. -/
def Layer.covers (l : Layer) (y : Int) : Bool := decide (l.clip.y ≤ y) && decide (y < l.clip.y + l.clip.h) && !l.dropped

/-- The rows a layer needs for an output line, from a source of `size` rows. -/
def Layer.needs (l : Layer) (level : Level) (size : Nat) (y : Int) : List Nat :=
  if l.covers y then tapRows level size l.dest y else []

/-- The rows an output line is the first to need. -/
def Layer.newRows (l : Layer) (level : Level) (size : Nat) (y : Int) : List Nat :=
  (l.needs level size y).filter fun r => !(l.needs level size (y - 1)).any fun q => decide (r ≤ q)

/-- The fetches of a layer for an output line. -/
def layerFetches (level : Level) (y : Int) (l : Layer) (n : Nat) : List RowFetch :=
  match l.source.pixels with
  | none => []
  | some p => (l.newRows level p.sh y).map fun r => ⟨y, n, r, 0⟩

/-- The fetches of a frame in order of first need: each row once. DESIGN CHOICE: those that one output line needs go by
layer, the lowest first, and within a layer by row (R166, 1.6, log 55). -/
def framePlan (level : Level) (height : Nat) (layers : List Layer) : List RowFetch :=
  (List.range height).flatMap fun (y : Nat) => layers.zipIdx.flatMap fun x => layerFetches level (y : Int) x.1 x.2

/-- Whether a line of the shared film layer is seen on a display of a given height. -/
def twinSees (top : Int) (height : Nat) (k : Nat) : Bool := decide (0 ≤ top + k) && decide (top + k < height)

/-- The lines of the shared film layer that either display outputs. -/
def twinLines (destH height : Nat) (topL topR : Int) : List Nat :=
  (List.range destH).filter fun k => twinSees topL height k || twinSees topR height k

/-- The fetches of the shared film layer, each row once (R24). DESIGN CHOICE: they are presented by line of the shared
frame, and so by ascending row, also where the two destination positions differ and one display needs later rows first
(R24, R166, log 68). -/
def twinPlan (level : Level) (size : Nat) (dest : Rect) : Nat → List Nat → List RowFetch
  | _, [] => []
  | next, k :: rest =>
    let rows := (tapRows level size dest (dest.y + k)).filter fun r => decide (next ≤ r)
    rows.map (fun r => ⟨(k : Int), 0, r, 0⟩) ++
      twinPlan level size dest (rows.foldl (fun m r => max m (r + 1)) next) rest

/-! ## The line a layer contributes (R20) -/

/-- The bytes of a row when it has been fetched whole without fault. -/
def readyRow (rows : List RowBuf) (length row : Nat) : Option (List Byte) :=
  match rows.find? fun r => r.row == row with
  | none => none
  | some r => if !r.faulted && decide (length ≤ (runBytes r.chunks).length) then some (runBytes r.chunks) else none

/-- A row of the direct frame in the line buffer (R160). -/
def directRow (s : State) (frame row : Nat) : Option (List Byte) :=
  (s.capture.buffer.find? fun l => l.frame == frame && l.row == row).map (·.payload)

/-- The line of a scaled source, none when a row it needs is not ready. -/
def scaledLine (level : Level) (l : Layer) (w h : Nat) (y : Int) (row : Nat → Option (List Argb)) : Option LayerLine :=
  let first := (l.clip.x - l.dest.x).toNat
  match ((taps level h l.dest.h (y - l.dest.y).toNat).mapM fun t =>
      (row t.1).map fun p => (scaleLine level w l.dest.w first l.clip.w p, t.2)) with
  | none => none
  | some lines => some ⟨l.clip.x, combineLines l.clip.w lines⟩

/-- A line made of one pixel function over the layer's clip. -/
def paintedLine (l : Layer) (y : Int) (f : Int → Int → Argb) : LayerLine :=
  ⟨l.clip.x, (List.range l.clip.w).map fun (k : Nat) => f (l.clip.x + k) y⟩

/-- The notice picture over its view rectangle (R158). -/
def noticePixel (view : Rect) (x y : Int) : Argb :=
  let gx := x - (view.x + ((view.w : Int) - 256) / 2)
  let gy := y - (view.y + ((view.h : Int) - 64) / 2)
  if 0 ≤ gx ∧ gx < 256 ∧ 0 ≤ gy ∧ gy < 64 ∧ Config.noticeGlyph gx.toNat gy.toNat = true then ⟨255, 255, 255, 255⟩
  else ⟨255, 0, 0, 0⟩

/-- The POOR glyph (R158). -/
def poorPixel (view : Rect) (x y : Int) : Argb :=
  let gx := x - (view.x + view.w - 40)
  let gy := y - (view.y + 8)
  if 0 ≤ gx ∧ gx < 32 ∧ 0 ≤ gy ∧ gy < 32 ∧ Config.poorGlyph gx.toNat gy.toNat = true then ⟨255, 255, 255, 0⟩
  else clearPixel

/-- The guide layer (R89, R100). -/
def guidePixel (g : Option GuideSet) (x y : Int) : Argb := ((g.bind fun g => g.pixel x y)).getD clearPixel

/-- The guide set drawn over a camera line (R14). -/
def overGuides (g : Option GuideSet) (y : Int) (line : LayerLine) : LayerLine :=
  { line with pixels := line.pixels.mapIdx fun k p => ((g.bind fun g => g.pixel (line.x0 + k) y)).getD p }

/-- The line of a fetched source. -/
def fetchedLine (level : Level) (l : Layer) (p : Pixels) (rows : List RowBuf) (y : Int) : Option LayerLine :=
  scaledLine level l p.sw p.sh y fun r => (readyRow rows p.rowBytes r).map (rowPixels p.format)

/-- The line of the direct frame (R160). -/
def directLine (s : State) (f : Frame) (l : Layer) (y : Int) : Option LayerLine :=
  match f.direct with
  | none => none
  | some d =>
    scaledLine f.level l d.width d.height y fun r => (directRow s d.frame r).map yuyvPixels

/-- The line a layer composes for an output line; none when a row it needs is not ready. -/
def layerLine (s : State) (f : Frame) (l : Layer) (y : Int) : Option LayerLine :=
  match l.source with
  | .fill c => some (paintedLine l y fun _ _ => c)
  | .black => some (paintedLine l y fun _ _ => ⟨255, 0, 0, 0⟩)
  | .notice => some (paintedLine l y (noticePixel l.dest))
  | .guides => some (paintedLine l y (guidePixel f.guideSet))
  | .poor => some (paintedLine l y (poorPixel l.dest))
  | .picture p => fetchedLine f.level l p l.rows y
  | .film _ p => fetchedLine f.level l p l.rows y
  | .store p => (fetchedLine f.level l p l.rows y).map fun x => if l.withGuides then overGuides f.guideSet y x else x
  | .twin _ => fetchedLine f.level l s.twin.pixels s.twin.rows y
  | .direct => directLine s f l y

/-- Blend a layer's line into the line being composed (R17). -/
def drawLine (opacity : Nat) (line : LayerLine) (canvas : List Rgb) : List Rgb :=
  canvas.mapIdx fun k p =>
    let i := (k : Int) - line.x0
    if 0 ≤ i ∧ i < line.pixels.length then blend opacity (line.pixels.getD i.toNat clearPixel) p else p

/-- A line being composed: its pixels, the layers done with their previous lines kept, whether it is late, and whether
the shared film layer is. -/
structure Composing where
  canvas : List Rgb
  layers : List Layer
  late : Bool
  twinLate : Bool
deriving DecidableEq, Repr

/-- Whether a layer is the shared film layer. -/
def LayerSource.isTwin : LayerSource → Bool
  | .twin _ => true
  | .fill _ => false
  | .picture _ => false
  | .film _ _ => false
  | .store _ => false
  | .direct => false
  | .black => false
  | .notice => false
  | .guides => false
  | .poor => false

/-- One layer's part in the line y (R20). -/
def composeLayer (s : State) (f : Frame) (y : Int) (c : Composing) (l : Layer) : Composing :=
  if l.covers y then
    match layerLine s f l y with
    | some line => { c with canvas := drawLine l.opacity line c.canvas, layers := c.layers ++ [{ l with prev := some line }] }
    | none =>
      { canvas := match l.prev with | some line => drawLine l.opacity line c.canvas | none => c.canvas
        layers := c.layers ++ [l]
        late := true
        twinLate := c.twinLate || l.source.isTwin }
  else { c with layers := c.layers ++ [l] }

/-- The line y of a frame (R16 to R20). -/
def composeLine (s : State) (f : Frame) (y : Nat) : Composing :=
  f.layers.foldl (composeLayer s f (y : Int)) ⟨List.replicate f.width ⟨0, 0, 0⟩, [], false, false⟩

/-! ## Rows that are still needed -/

/-- The lowest row a layer still needs from the output line y on; none when it needs no more. -/
def Layer.firstNeeded (l : Layer) (level : Level) (size : Nat) (y : Int) : Option Nat :=
  (l.needs level size (max y l.clip.y)).head?

/-- Whether a row is still needed, given the lowest one. -/
def stillNeeded (first : Option Nat) (row : Nat) : Bool :=
  match first with
  | none => false
  | some n => decide (n ≤ row)

/-- The rows of a layer that lines from y on no longer need are given up. -/
def Layer.prune (l : Layer) (level : Level) (y : Int) : Layer :=
  match l.source.pixels with
  | none => l
  | some p => { l with rows := l.rows.filter fun r => stillNeeded (l.firstNeeded level p.sh y) r.row }

/-- Whether a fetch of a frame is still needed from the line y on. -/
def Frame.fetchNeeded (f : Frame) (y : Int) (r : RowFetch) : Bool :=
  match f.layers[r.layer]? with
  | none => false
  | some l =>
    match l.source.pixels with
    | none => false
    | some p => stillNeeded (l.firstNeeded f.level p.sh y) r.row

/-- The frame goes on to the line y (R20): rows and fetches no longer needed are given up. -/
def Frame.advance (f : Frame) (y : Nat) : Frame :=
  let g := { f with layers := f.layers.map fun (l : Layer) => l.prune f.level (y : Int) }
  { g with nextLine := y, lineStarted := false, plan := g.plan.filter (g.fetchNeeded y) }

/-- The chunk of a fetched row goes to its row buffer. -/
def putChunk (row offset : Nat) (bytes : List Byte) (rows : List RowBuf) : List RowBuf :=
  if rows.any fun r => r.row == row then
    rows.map fun r => if r.row = row then { r with chunks := insertRun offset bytes r.chunks } else r
  else rows ++ [⟨row, [(offset, bytes)], false⟩]

/-- A fetch of a row ended with a fault. -/
def putFault (row : Nat) (rows : List RowBuf) : List RowBuf :=
  if rows.any fun r => r.row == row then rows.map fun r => if r.row = row then { r with faulted := true } else r
  else rows ++ [⟨row, [], true⟩]

end Sys2Proof.Machine
end

