-- ==== Sys2Proof/Machine/Display.lean ====
section
/-! DEFINITION. The composers at work (chapter 1, 7.4 to 7.6): the bank latch, the display asks, frame starts and frame
ends with pair mode, twin fetch and the FRONT modes, the output of lines, and the completion of their fetches. -/

namespace Sys2Proof.Machine

/-! ## The bank latch (R7 to R10) -/

/-- The offset of a bank (1.3). -/
def bankOffset (d : Display) (bk : Bank) : Nat := 0x1000 + 0x800 * displayIndex d + (match bk with | .a => 0 | .b => 0x400)

/-- A candidate begins (R7): the bank's entry count is read first. -/
def beginCandidate (d : Display) (bk : Bank) (count : Word) (s : State) : State :=
  let n := (s.composer d).candidateSerial + 1
  makeRead (.bankCount d n) (s.areaAddr (bankOffset d bk)) 4
    (s.onComposer d fun c => { c with candidateSerial := n, candidate := .reading n bk count none [] })

/-- A select word handed to a composer (R7). -/
def handSelect (d : Display) (bytes : List Byte) (s : State) : State :=
  let bank := wordAt bytes 0
  let count := wordAt bytes 4
  if (s.composer d).lastSelect = some (bank, count) then s
  else
    let s := s.onComposer d fun c => { c with lastSelect := some (bank, count), candidate := .none }
    if 1 < bank.toNat then
      areaFault .select (wordOfNat (displayIndex d)) (s.onComposer d fun c => { c with bankFault := .select })
    else beginCandidate d (if bank = 0 then .a else .b) count s

/-- A candidate is refused (R8). -/
def refuseBank (d : Display) (f : BankFault) (k : AreaFaultKind) (s : State) : State :=
  areaFault k (wordOfNat (displayIndex d)) (s.onComposer d fun c =>
    { c with candidate := .none, bankFault := f, refusals := c.refusals + 1 })

/-- The active area of a display. -/
def State.area (s : State) (d : Display) : Rect := (s.timing d).area

/-- A candidate whose entries have been read is checked and waits (R8, R12). -/
def checkCandidate (d : Display) (bk : Bank) (count : Word) (n : Nat) (bytes : List Byte) (s : State) : State :=
  s.onComposer d fun c => { c with candidate := .waiting ⟨bk, count, checkedEntries d (s.area d) bytes n⟩ }

/-- The reads of the counted entries (R8, R166). -/
def makeEntryReads (d : Display) (bk : Bank) (serial n : Nat) (s : State) : State :=
  let start := s.areaAddr (bankOffset d bk + 0x40)
  (requestsOf start (64 * n)).foldl
    (fun s r => makeRead (.bankEntries d serial (r.1 - start).toNat) r.1 r.2 s) s

/-- The entry count of a candidate has been read (R8). -/
def bankCountDone (d : Display) (serial : Nat) (bytes : List Byte) (s : State) : State :=
  match (s.composer d).candidate with
  | .none => s
  | .waiting _ => s
  | .reading k bk count _ _ =>
    if k ≠ serial then s
    else
      let n := (wordAt bytes 0).toNat
      if 8 < n then refuseBank d .count .bankCount s
      else if n = 0 then checkCandidate d bk count 0 [] s
      else makeEntryReads d bk serial n (s.onComposer d fun c => { c with candidate := .reading k bk count (some n) [] })

/-- Entries of a candidate have been read (R8). -/
def bankEntriesDone (d : Display) (serial offset : Nat) (bytes : List Byte) (s : State) : State :=
  match (s.composer d).candidate with
  | .none => s
  | .waiting _ => s
  | .reading k bk count size got =>
    if k ≠ serial then s
    else
      let got := insertRun offset bytes got
      let n := size.getD 0
      if 64 * n ≤ (runBytes got).length then checkCandidate d bk count n (runBytes got) s
      else s.onComposer d fun c => { c with candidate := .reading k bk count size got }

/-- A read of a candidate ended with a fault (R8). DESIGN CHOICE: the candidate is refused at its first request that
faults; its other requests run on and are ignored (log 43). -/
def bankReadFault (d : Display) (serial : Nat) (s : State) : State :=
  match (s.composer d).candidate with
  | .none => s
  | .waiting _ => s
  | .reading k _ _ _ _ => if k = serial then refuseBank d .read .bankRead s else s

/-- A display's shown bank, its change count and its bad entry places in the display status (R200). -/
def shownBankOffsets (d : Display) : List Nat :=
  let off := 0x8600 + 0x100 * displayIndex d
  [off + 0x24, off + 0x28, off + 0x2C]

/-- The latch at a frame start (R9). -/
def latch (d : Display) (s : State) : State :=
  match (s.composer d).candidate with
  | .none => s
  | .reading _ _ _ _ _ => s
  | .waiting bk =>
    noteWritten (shownBankOffsets d) (s.onComposer d fun c =>
      { c with
        candidate := .none
        shown := some bk
        bankFault := .none
        entryBad := c.entryBad + wordOfNat (badCount bk.entries) })

/-! ## Display asks (R3, R6) -/

/-- DISPLAY_TIMING handed: its record is read (R3). -/
def beginTiming (d : Display) (a : Ask) (s : State) : State :=
  makeRead (.timing d) (s.areaAddr (0x0800 + 0x100 * displayIndex d)) 16
    (s.onSlot (displaySlot d) fun x => { x with reading := some a.sequence })

/-- An ask in a display's slot (R6). -/
def takeDisplayAsk (d : Display) (a : Ask) (s : State) : State :=
  if a.anyFrom 0 then takeAsk (displaySlot d) a.sequence .refusedField s
  else if a.code = 0x20 then beginTiming d a s
  else if a.code = 0x21 then
    takeAsk (displaySlot d) a.sequence .done (s.onComposer d fun c => { c with userBlank := true })
  else if a.code = 0x22 then
    takeAsk (displaySlot d) a.sequence .done (s.onComposer d fun c => { c with userBlank := false })
  else takeAsk (displaySlot d) a.sequence .refusedField s

/-- A display timing record has been read (R3). -/
def timingDone (d : Display) (bytes : List Byte) (s : State) : State :=
  match (s.slot (displaySlot d)).reading with
  | none => s
  | some q =>
    if !timingValid d bytes then takeAsk (displaySlot d) q .refusedField s
    else if d = .front ∧ s.frontView.mode ≠ .normal then takeAsk (displaySlot d) q .refusedState s
    else takeAsk (displaySlot d) q .done (s.onComposer d fun c => { c with waiting := some (timingOf bytes) })

/-- An ask in reading is given up untaken (R187). -/
def giveUpAsk (n : Nat) (s : State) : State := s.onSlot n fun a => { a with reading := none }

/-! ## Lateness (R20 to R22) -/

/-- The history evaluated at a frame start (R22). -/
def Composer.evaluate (c : Composer) : Composer :=
  let step := fun (l : Level) => { c with level := l, history := List.replicate 8 .empty, held := none }
  let late := (c.history.filter (· == .late)).length
  let onTime := c.history.all (· == .onTime)
  match c.level with
  | .full =>
    if 3 ≤ late then step .reduced
    else if onTime ∧ c.held.isSome then { c with held := none, history := List.replicate 8 .empty }
    else c
  | .reduced => if 3 ≤ late then step .minimal else if onTime then step .full else c
  | .minimal => if onTime then step .reduced else c

/-- The lower of two levels. -/
def Level.lower : Level → Level → Level
  | .minimal, _ => .minimal
  | .reduced, .minimal => .minimal
  | .reduced, .full => .reduced
  | .reduced, .reduced => .reduced
  | .full, l => l

/-- The effective level (R19). -/
def Composer.effective (c : Composer) : Level :=
  match c.held with
  | none => c.level
  | some h => c.level.lower h

/-! ## The direct frame's rows (R160) -/

/-- Whether some line of a frame still to be output needs a row of the direct frame. -/
def Frame.usesRow (f : Frame) (rows row : Nat) : Bool :=
  (List.range f.height).any fun (y : Nat) =>
    decide (f.nextLine ≤ y) && f.layers.any fun l => l.source == .direct && (l.needs f.level rows (y : Int)).contains row

/-- Whether FRONT still needs a row of a camera frame. -/
def frontUses (s : State) (frame row : Nat) : Bool :=
  match s.composers.front.frame with
  | none => false
  | some f =>
    match f.direct with
    | none => false
    | some d => d.frame == frame && f.usesRow d.height row

/-- The lines whose consumers have all taken them leave the buffer (R65). -/
def keepTaken (l : List BufLine) : List BufLine := l.filter fun x => x.forWriter || x.forFront

/-- FRONT takes every row that it needs no more (R160). -/
def takeRows (s : State) : State :=
  s.onCapture fun c =>
    { c with buffer := keepTaken (c.buffer.map fun l => { l with forFront := l.forFront && frontUses s l.frame l.row }) }

/-! ## Frame ends (R20, R21, R68) -/

/-- The end of a display's frame: the history of a shown frame takes it (R21) and a late one is counted (R20). -/
def Composer.endFrame (c : Composer) : Composer :=
  match c.frame with
  | none => c
  | some f =>
    if f.blank then { c with frame := none }
    else
      { c with
        frame := none
        history := (if f.late then .late else .onTime) :: c.history.take 7
        lateFrames := if f.late then c.lateFrames + 1 else c.lateFrames }

/-- A frame of a display ends. At FRONT's, its reading store becomes none (R68) and rows still held are taken (R161). -/
def endFrame (d : Display) (s : State) : State :=
  if (s.composer d).frame.isNone then s
  else
    let s := s.onComposer d Composer.endFrame
    if d = .front then takeRows (s.onCapture fun c => { c with frontReading := none }) else s

/-- FRAME_END of a display; a paired REAR_R ends with REAR_L and has no frame end of its own (R4). -/
def frameEndOf (d : Display) (s : State) : State :=
  match d with
  | .front => endFrame .front s
  | .rearL => if s.paired then endFrame .rearR (endFrame .rearL s) else endFrame .rearL s
  | .rearR => if s.paired then s else endFrame .rearR s

/-! ## Frame starts -/

/-- The waiting timing becomes current; the frame that begins is a restart frame (R3). -/
def Composer.applyTiming (c : Composer) : Composer :=
  match c.waiting with
  | none => { c with restart := false }
  | some t => { c with timing := t, waiting := none, restart := true }

/-- REAR_R's timing at a paired frame start (R4): it leaves the pair, takes a new lead, or restarts with REAR_L. -/
def Composer.applyPaired (c : Composer) (restart : Bool) : Composer :=
  match c.waiting with
  | none => { c with restart := restart }
  | some t => if t.pair then { c with timing := t, waiting := none, restart := restart } else c.applyTiming

/-- The poller's reads at a frame start (R186), and the card reads that retry there, behind them (R34, log 64). -/
def pollDisplays (ds : List Display) (s : State) : State :=
  if s.port.attached then
    let s := ds.foldl (fun s d => pollRead (.select d) (0x2800 + 8 * displayIndex d) 8 s) s
    retryCards .frames (pollRead (.postedCounts .frames) 0x2840 8 s)
  else s

/-- FRONT's mode at a frame start (R154, R157, R161); a locked frame start is in DIRECT. DESIGN CHOICE: the lock mark of a
mode that is left stays set until this frame start (log 59). -/
def frontModeStart (locked : Bool) (s : State) : State :=
  let wanted := s.wantedMode
  let m := s.frontView.mode
  let mode : FrontMode :=
    if locked then .direct
    else if m = .direct then (if s.frontView.leave then wanted else .direct)
    else if wanted = .direct then (if s.showsNotice then .direct else m)
    else wanted
  refreshLeave { s with frontView := ⟨mode, locked, false⟩ }

/-- The blank reasons that hold for a display's frame (R5, R162). -/
def blankReasons (s : State) (d : Display) : BlankReasons :=
  let c := s.composer d
  if d = .front ∧ s.frontView.mode ≠ .normal then ⟨false, false, c.restart, false⟩
  else ⟨c.userBlank, s.port.quiet, c.restart, !s.port.attached⟩

def BlankReasons.any (r : BlankReasons) : Bool := r.user || r.quiet || r.restart || r.detached

/-- What a frame start writes in the display status (1.9): the blank and its reasons (R5) and, at a restart frame's, the
current timing (R3, R4). -/
def frameStartOffsets (d : Display) (restart : Bool) : List Nat :=
  let off := 0x8600 + 0x100 * displayIndex d
  (if restart then (List.range 7).map fun i => off + 4 * i else []) ++ [off + 0x1C, off + 0x20]

/-- Whether the frame that begins is blank (R5). -/
def setBlank (d : Display) (s : State) : State :=
  let r := blankReasons s d
  noteWritten (frameStartOffsets d (s.composer d).restart) (s.onComposer d fun c => { c with reasons := r, blank := r.any })

/-- Whether an entry that is not bad is a FILM entry of a stream. -/
def Entry.isFilmOf (e : Entry) (st : Stream) : Bool :=
  !e.bad && match e.body with
    | .film code _ => streamOf code == st
    | .none => false
    | .fill _ _ _ _ => false
    | .picture _ _ _ _ _ _ _ => false
    | .camera => false
    | .unknown _ => false

/-- Whether a display shows a stream (R43). -/
def showsStream (s : State) (d : Display) (st : Stream) : Bool :=
  let c := s.composer d
  !c.blank && (d != .front || s.frontView.mode == .normal) && c.entries.any (·.isFilmOf st)

/-- The film timing unit at a frame start: selection, then one release (R43 to R47). -/
def filmStart (ds : List Display) (s : State) : State :=
  releaseBoth (ds.foldl (fun s d =>
    let lead := (s.timing d).lead
    streamFrameStart .f1 d (showsStream s d .f1) lead (streamFrameStart .f0 d (showsStream s d .f0) lead s)) s)

/-! ## Twin fetch (R23, R24) -/

/-- A bank's FILM entry when it has exactly one that is not bad: its stream, fit and the entry. -/
def onlyFilm (c : Composer) : Option (Stream × Byte × Entry) :=
  match c.entries.filterMap fun e =>
      match e.body with
      | .film code fit => if e.bad then none else some (streamOf code, fit, e)
      | .none => none
      | .fill _ _ _ _ => none
      | .picture _ _ _ _ _ _ _ => none
      | .camera => none
      | .unknown _ => none with
  | [x] => some x
  | [] => none
  | _ :: _ :: _ => none

/-- What twin fetch shares in a frame: the stream, the card, and the fitted rectangles on both displays. -/
structure Shared where
  stream : Stream
  card : FrameCard
  left : Rect
  right : Rect
deriving DecidableEq, Repr

/-- The conditions of R23. DESIGN CHOICE: a current card that a PAUSED or STARVED stream keeps at this frame start (R45)
counts as selected at it (log 63). -/
def twinShared (s : State) : Option Shared :=
  let l := s.composers.rearL
  let r := s.composers.rearR
  if l.blank || r.blank || !s.paired then none
  else
    match onlyFilm l, onlyFilm r with
    | some (st, fit, e), some (st', fit', e') =>
      match s.currentCard st .rearL, s.currentCard st .rearR with
      | some c, some c' =>
        let left := filmRect fit e.rect c.width.toNat c.height.toNat
        if st = st' ∧ fit = fit' ∧ e.rect.w = e'.rect.w ∧ e.rect.h = e'.rect.h ∧ c.index = c'.index ∧
            cardFits left c.width.toNat c.height.toNat then
          some ⟨st, c, left, filmRect fit' e'.rect c.width.toNat c.height.toNat⟩
        else none
      | some _, none => none
      | none, _ => none
    | some _, none => none
    | none, _ => none

/-- Twin fetch begins in a frame (R24): both held levels are set and the shared frame's fetches planned. -/
def beginTwin (x : Shared) (s : State) : State :=
  let level := s.composers.rearL.level.lower s.composers.rearR.level
  let s := (s.onComposer .rearL fun c => { c with held := some level }).onComposer .rearR fun c => { c with held := some level }
  let lines := twinLines x.left.h (s.timing .rearL).activeH x.left.y x.right.y
  { s with twin :=
    { inUse := true
      serial := s.twin.serial + 1
      stream := x.stream
      pixels := x.card.pixels
      destH := x.left.h
      topL := x.left.y
      topR := x.right.y
      level := level
      rows := []
      plan := twinPlan level x.card.height.toNat x.left 0 lines } }

/-- Twin fetch is not in use; a request of it still waiting is withdrawn (R169). -/
def endTwin (s : State) : State := { s with twin := { s.twin with inUse := false, rows := [], plan := [] } }

/-- The decision at a paired frame start (R23); outside pair mode twin fetch is not used. -/
def decideTwin (s : State) : State :=
  match twinShared s with
  | none => endTwin s
  | some x => beginTwin x s

/-! ## The frame that begins -/

/-- Whether a bank holds a CAMERA entry that is not bad. -/
def Composer.hasCamera (c : Composer) : Bool := c.entries.any fun e => !e.bad && e.body == .camera

/-- FRONT reports whether its frame draws a CAMERA layer (R86). -/
def reportCamera (s : State) : State :=
  let c := s.composers.front
  s.onGuide fun g => { g with cameraDrawn := !c.blank && s.frontView.mode == .normal && c.hasCamera }

/-- The store FRONT reads in the frame that begins (R14, R68, R157). DESIGN CHOICE: a frame whose camera layer is clipped
away reads no store, so it sets none (log 54). -/
def setReadingStore (layers : List Layer) (s : State) : State :=
  let reads := layers.any fun l => match l.source with
    | .store _ => true
    | .fill _ => false
    | .picture _ => false
    | .film _ _ => false
    | .twin _ => false
    | .direct => false
    | .black => false
    | .notice => false
    | .guides => false
    | .poor => false
  if reads then s.onCapture fun c => { c with frontReading := c.published.map (·.store) } else s

/-- In a FRONT frame that begins in NORMAL while the reverse view is SHOWING, UNAVAILABLE or LINGER, the camera view
rectangle is black over the host's content (R156, log 44). -/
def viewCover (s : State) : List Layer :=
  if s.reverse.view.mutes then
    let view := s.capture.record.view
    [plainLayer .black 255 view (view.clip (s.area .front))].filter fun l => !l.clip.empty
  else []

/-- The layers of the frame that begins: none when it is blank (R5). -/
def frameLayers (s : State) (d : Display) (direct : Option DirectFrame) : List Layer :=
  if (s.composer d).blank then []
  else if d = .front then
    if s.frontView.mode = .normal then normalLayers s .front (s.area .front) false ++ viewCover s
    else reverseLayers s (s.area .front) direct
  else normalLayers s d (s.area d) s.twin.inUse

/-- The FILM entries whose card fails the limits in the frame that begins (R13). -/
def failingFilms (s : State) (d : Display) : Nat :=
  if (s.composer d).blank || (d == .front && s.frontView.mode != .normal) then 0
  else ((s.composer d).entries.filter fun e => !e.bad && filmFails s d e).length

/-- The frame of a display begins with its layers and fetches. -/
def makeFrame (direct : Option DirectFrame) (d : Display) (s : State) : State :=
  let c := s.composer d
  let t := s.timing d
  let layers := frameLayers s d direct
  let level := c.effective
  let frame : Frame :=
    { serial := c.frameSerial + 1
      blank := c.blank
      width := t.activeW
      height := t.activeH
      nextLine := 0
      late := false
      level := level
      layers := layers
      plan := framePlan level t.activeH layers
      locked := direct.isSome
      direct := direct
      lineStarted := false
      guideSet := if d = .front ∧ c.blank = false then s.guide.shown else none }
  let bad := failingFilms s d
  let s := s.onComposer d fun c =>
    { c with frame := some frame, frameSerial := c.frameSerial + 1, entryBad := c.entryBad + wordOfNat bad }
  if d = .front then setReadingStore layers (reportCamera s) else s

/-- The frames of the displays that share a frame start begin, their timings already applied (R1, R9, R22 to R24, R43,
R154, R186). -/
def startFrames (ds : List Display) (direct : Option DirectFrame) (s : State) : State :=
  let s := pollDisplays ds s
  let s := ds.foldl (fun s d => latch d s) s
  let s := ds.foldl (fun s d => s.onComposer d Composer.evaluate) s
  let s := if ds.contains .front then frontModeStart direct.isSome s else s
  let s := ds.foldl (fun s d => setBlank d s) s
  let s := filmStart ds s
  let s := if ds.contains .front then s else if ds.contains .rearL && ds.contains .rearR then decideTwin s else endTwin s
  ds.foldl (fun s d => makeFrame direct d s) s

/-- A frame start of FRONT: free-running, or locked to a camera frame (R159). A frame still in progress ends. -/
def startFront (direct : Option DirectFrame) (s : State) : State :=
  startFrames [.front] direct ((endFrame .front s).onComposer .front Composer.applyTiming)

/-- A paired frame start (R4). -/
def startPair (s : State) : State :=
  let s := endFrame .rearR (endFrame .rearL s)
  let restart := s.composers.rearL.waiting.isSome || s.pairStarting
  let s := (s.onComposer .rearL Composer.applyTiming).onComposer .rearR fun c => c.applyPaired restart
  startFrames [.rearL, .rearR] none { s with pairStarting := false }

/-- REAR_R's generator stops to be paired at REAR_L's next frame start; its output is blank (R4). -/
def stopForPair (s : State) : State :=
  let s := startFrames [.rearR] none
    { (endFrame .rearR s).onComposer .rearR Composer.applyTiming with pairStarting := true }
  s.onComposer .rearR fun c => { c with frame := none }

/-- FRAME_START of a display (R1, R4, R159). A paired REAR_R has no frame start of its own, and a locked FRONT begins no
frame by itself. -/
def frameStartOf (d : Display) (s : State) : State :=
  match d with
  | .front => if s.frontView.mode = .direct ∧ s.frontView.locked ∧ s.frontView.leave = false then s else startFront none s
  | .rearL =>
    if s.paired then startPair s
    else startFrames [.rearL] none ((endFrame .rearL s).onComposer .rearL Composer.applyTiming)
  | .rearR =>
    if s.paired then s
    else if (s.composers.rearR.waiting.map (·.pair)).getD false then stopForPair s
    else startFrames [.rearR] none ((endFrame .rearR s).onComposer .rearR Composer.applyTiming)

/-- The locked generator starts a frame of its own after a whole frame period without a code (R159). -/
def freeRunStart (s : State) : State :=
  if s.frontView.mode = .direct ∧ s.frontView.locked ∧ s.frontView.leave = false ∧ s.composers.front.frame.isNone then
    startFront none s
  else s

/-- Whether a kept camera frame start code locks FRONT (R159): in DIRECT unless it is being left (R161), and in the other
modes when DIRECT is wanted, but for the views that draw the notice, whose move waits for the next FRONT frame start
(R154). -/
def State.locksFront (s : State) : Bool :=
  s.wantedMode == .direct && !s.frontView.leave && (s.frontView.mode == .direct || !s.showsNotice)

/-! ## Lines (R20, R160) -/

/-- Whether every row a line needs of the direct frame has been entered, or none can come any more (R160). -/
def directReady (s : State) (f : Frame) (y : Nat) : Bool :=
  match f.direct with
  | none => true
  | some d =>
    d.closed || f.layers.all fun l =>
      l.source != .direct ||
      (l.needs f.level d.height (y : Int)).all fun r => (directRow s d.frame r).isSome

/-- The next line of a locked frame may begin (R160). -/
def startDirectLine (s : State) : State :=
  match s.composers.front.frame with
  | none => s
  | some f =>
    if f.locked ∧ f.nextLine < f.height ∧ directReady s f f.nextLine then
      s.onComposer .front fun c => { c with frame := some { f with lineStarted := true } }
    else s

/-- The lowest row of the shared film frame that either display still needs (R24). -/
def twinFirst (s : State) : Option Nat :=
  let h := (s.timing .rearL).activeH
  let next := fun (c : Composer) => match c.frame with | none => h | some f => f.nextLine
  let l := (next s.composers.rearL : Int) - s.twin.topL
  let r := (next s.composers.rearR : Int) - s.twin.topR
  match (List.range s.twin.destH).find? fun (k : Nat) =>
      (twinSees s.twin.topL h k && decide (l ≤ k)) || (twinSees s.twin.topR h k && decide (r ≤ k)) with
  | none => none
  | some k => (tapRows s.twin.level s.twin.pixels.sh ⟨0, 0, 0, s.twin.destH⟩ (k : Int)).head?

/-- Rows and fetches of the shared film frame that no line needs any more are given up. -/
def pruneTwin (s : State) : State :=
  if s.twin.inUse then
    let first := twinFirst s
    { s with twin := { s.twin with
        rows := s.twin.rows.filter fun r => stillNeeded first r.row
        plan := s.twin.plan.filter fun r => stillNeeded first r.row } }
  else s

/-- A late line of the shared film layer is late on both displays (R20, R24). -/
def markTwinLate (s : State) : State :=
  let late := fun (c : Composer) => { c with frame := c.frame.map fun f => { f with late := true } }
  (s.onComposer .rearL late).onComposer .rearR late

/-- The next line of a frame is output (R16 to R20). -/
def outputLine (d : Display) (f : Frame) (s : State) : State :=
  let c := composeLine s f f.nextLine
  let g := { f with layers := c.layers, late := f.late || c.late }
  let s := s.onComposer d fun k => { k with output := c.canvas, frame := some (g.advance (f.nextLine + 1)) }
  let s := if c.twinLate then markTwinLate s else s
  match d with
  | .front => takeRows s
  | .rearL => pruneTwin s
  | .rearR => pruneTwin s

/-- LINE_OUTPUT of a display: nothing when no active line is due, or while a locked frame waits for rows (R160). -/
def lineOutputOf (d : Display) (s : State) : State :=
  match (s.composer d).frame with
  | none => s
  | some f =>
    if f.nextLine < f.height ∧ (f.lineStarted || directReady s f f.nextLine) = true then outputLine d f s else s

/-- The line in progress when a kept camera frame start code locks FRONT again is completed (R159): the line that a
DIRECT_LINE_START has begun is output. -/
def completeLine (s : State) : State :=
  match s.composers.front.frame with
  | none => s
  | some f => if f.lineStarted ∧ f.nextLine < f.height then outputLine .front f s else s

/-! ## Fetches (R20, R172) -/

/-- A change of a layer of a display's frame with a given serial, when the row is still needed. DESIGN CHOICE: a row that
several output lines need is discarded only once no later line needs it, and a row whose fetch has faulted makes each line
that needs it late (R20, log 45). -/
def onLayerRow (d : Display) (serial layer row : Nat) (f : Layer → Layer) (s : State) : State :=
  s.onComposer d fun c =>
    match c.frame with
    | none => c
    | some x =>
      if x.serial = serial ∧ x.fetchNeeded x.nextLine ⟨0, layer, row, 0⟩ then
        { c with frame := some { x with layers := setAt x.layers layer f } }
      else c

/-- A fetch of a layer's row completes. -/
def layerRowDone (d : Display) (serial layer row offset : Nat) (bytes : List Byte) (s : State) : State :=
  onLayerRow d serial layer row (fun l => { l with rows := putChunk row offset bytes l.rows }) s

/-- A fetch of a layer's row ends with a fault. -/
def layerRowFault (d : Display) (serial layer row : Nat) (s : State) : State :=
  onLayerRow d serial layer row (fun l => { l with rows := putFault row l.rows }) s

/-- A change of the shared film frame's rows, when the row is still needed. -/
def onTwinRow (serial row : Nat) (f : List RowBuf → List RowBuf) (s : State) : State :=
  if s.twin.inUse ∧ s.twin.serial = serial ∧ stillNeeded (twinFirst s) row then
    { s with twin := { s.twin with rows := f s.twin.rows } }
  else s

/-! ## DETACH and link reset (R10, R26, R164) -/

/-- DETACH at a composer. -/
def Composer.detach (c : Composer) : Composer :=
  { c with
    waiting := none
    shown := none
    lastSelect := none
    candidate := .none
    bankFault := .none
    frame := c.frame.map fun f => { f with plan := [] } }

/-- DETACH at the three composers; the twin fetch's requests are withdrawn. -/
def detachComposers (s : State) : State :=
  { s with composers := s.composers.map Composer.detach, twin := { s.twin with plan := [] } }

/-- What a link reset does beyond DETACH (R6, R21, R22, R26). -/
def Composer.linkReset (c : Composer) : Composer :=
  { c with userBlank := false, level := .full, history := List.replicate 8 .empty, held := none }

end Sys2Proof.Machine
end

