-- ==== Sys2Proof/Machine/Capture.lean ====
section
/-! DEFINITION. The camera capture unit (chapter 3): the link receiver and its line check, the capture states and their
timers, the I2C script sender, the line buffer, the frame stores and the store writer, and the frame history. -/

namespace Sys2Proof.Machine

/-! ## The line check (R52) -/

/-- The remainder after one more bit: generator x^16 + x^12 + x^5 + 1. -/
def crcBit (r : Half) (bit : Bool) : Half :=
  if r.getLsbD 15 != bit then (r <<< 1) ^^^ 0x1021#16 else r <<< 1

/-- The remainder after one more byte, most significant bit first. -/
def crcByte (r : Half) (x : Byte) : Half :=
  [7, 6, 5, 4, 3, 2, 1, 0].foldl (fun r i => crcBit r (x.getLsbD i)) r

/-- The line check of a payload. -/
def lineCheck (payload : List Byte) : Half := payload.foldl crcByte 0xFFFF#16

/-! ## States (R56 to R64) -/

/-- CAM_PWR is raised in every state but OFF and FAULT (3.4). -/
def CaptureState.powered : CaptureState → Bool
  | .off => false
  | .fault => false
  | .powering => true
  | .setup => true
  | .armed => true
  | .capturing => true
  | .stopping => true
  | .lost => true

/-- The output line CAM_PWR. -/
def State.camPwr (s : State) : Bool := s.capture.state.powered

/-- A change of the capture state is handed to the reverse view controller (R80, R146). -/
def handCapture (st : CaptureState) (s : State) : State :=
  match st with
  | .lost => viewLost (undeliver s)
  | .fault => viewLost (undeliver s)
  | .off => undeliver s
  | .powering => s
  | .setup => s
  | .armed => s
  | .capturing => s
  | .stopping => s

/-- The capture state in the camera status (R200). -/
def captureOffset : Nat := 0x8A00

/-- The capture state becomes st, and is written (R64). -/
def setCapture (st : CaptureState) (s : State) : State :=
  handCapture st (setFlag .cameraChange (noteWritten [captureOffset] (s.onCapture fun c => { c with state := st })))

/-- The camera is powered up from OFF (R58). -/
def powerUp (s : State) : State :=
  setCapture .powering (s.onCapture fun c => { c with settleTimer := some (msSamples 50) })

/-- Whether the FRONT composer's direct frame is a given camera frame: it is then told that no row of it is still to
come (R160). -/
def closeDirect (frame : Nat) (s : State) : State :=
  s.onComposer .front fun c => { c with frame := c.frame.map fun f => { f with direct := f.direct.map fun d =>
    if d.frame = frame then { d with closed := true } else d } }

/-- A kept frame is abandoned (R71): it has no verdict, and its lines leave the buffer. -/
def abandonFrame (frame : Nat) (s : State) : State :=
  closeDirect frame (s.onCapture fun c =>
    { c with
      frames := c.frames.filter fun f => f.id != frame
      buffer := c.buffer.filter fun l => l.frame != frame
      openFrame := if c.openFrame = .kept frame then .none else c.openFrame })

/-- The kept frames not complete that are of a kind are abandoned. -/
def abandonFrames (kind : KeptFrame → Bool) (s : State) : State :=
  (s.capture.frames.filter kind).foldl (fun s f => abandonFrame f.id s) s

/-- The open frame is given up: a kept one is abandoned, an ignored one discarded (R56). -/
def loseOpen (s : State) : State :=
  match s.capture.openFrame with
  | .none => s
  | .ignored _ => s.onCapture fun c => { c with openFrame := .none }
  | .kept id => abandonFrame id s

/-- The newest published store and its frame number in the camera status (R200). -/
def publishedOffsets : List Nat := [0x8A08, 0x8A0C]

/-- The frame history and POOR. -/
def historyOffsets : List Nat := [0x8A14, 0x8A1C]

/-- The script fault step and reason. -/
def scriptFaultOffsets : List Nat := [0x8A3C, 0x8A40]

/-- What entry into OFF sets (R64). -/
def Capture.switchOff (c : Capture) : Capture :=
  { c with
    settleTimer := none
    stepTimer := none
    lossTimer := none
    i2c := none
    dropWaits := false
    openFrame := .none
    published := none
    history := List.replicate 8 .empty
    poor := false }

/-- Entry into OFF, and on to POWERING when the camera is needed (R64, R63). A closed frame that the writer has not
finished is none of R71's cases and goes on to its completion (log 25). -/
def enterOff (s : State) : State :=
  let poor := s.capture.poor
  let s := noteWritten publishedOffsets ((loseOpen s).onCapture Capture.switchOff)
  let s := if poor then setFlag .cameraChange s else s
  let s := refreshLeave (setCapture .off s)
  if s.cameraNeeded then powerUp s else s

/-! ## The setup script (R59, R60) -/

/-- The bytes of a WRITE transaction: address with the write direction, register high byte first, data (R60). -/
def i2cBytes (device : Byte) (register : Half) (data : List Byte) : List Byte :=
  [device <<< 1, register.extractLsb' 8 8, register.extractLsb' 0 8] ++ data

/-- ARMED is entered, which starts the loss timer (R56, R61). -/
def arm (s : State) : State := setCapture .armed (s.onCapture fun c => { c with lossTimer := some (msSamples 100) })

/-- The script goes on with its present step; past the last one is the END (R59). -/
def runStep (s : State) : State :=
  match s.capture.script[s.capture.scriptStep]? with
  | none => arm s
  | some (.write device register bytes) => s.onCapture fun c => { c with i2c := some (i2cBytes device register bytes) }
  | some (.wait ms) => s.onCapture fun c => { c with stepTimer := some (msSamples ms) }

/-- The next step begins. -/
def nextStep (s : State) : State := runStep (s.onCapture fun c => { c with scriptStep := c.scriptStep + 1 })

/-- Entry into SETUP (R59, R60). -/
def beginSetup (s : State) : State :=
  runStep (setCapture .setup (noteWritten scriptFaultOffsets (s.onCapture fun c =>
    { c with scriptStep := 0, faultStep := none, faultReason := .none })))

/-- The settle timer expires (R58). -/
def settle (s : State) : State :=
  if s.capture.state = .powering ∧ s.capture.settleTimer.isSome then
    let s := s.onCapture fun c => { c with settleTimer := none }
    if s.capture.script.isEmpty then arm s else beginSetup s
  else s

/-- A WAIT step ends (R59). -/
def endWait (s : State) : State :=
  if s.capture.state = .setup ∧ s.capture.stepTimer.isSome then nextStep (s.onCapture fun c => { c with stepTimer := none })
  else s

/-- A transaction fails: the script is abandoned and the camera is in FAULT (R60). -/
def scriptFails (reason : ScriptFault) (s : State) : State :=
  setCapture .fault (noteWritten scriptFaultOffsets
    (s.onCapture fun c => { c with faultStep := some c.scriptStep, faultReason := reason }))

/-- A WRITE transaction ends, with a failure or without (R59, R60). After a drop in the meantime its outcome is not acted
on. -/
def endWrite (failure : Option ScriptFault) (s : State) : State :=
  if s.capture.state = .setup ∧ s.capture.i2c.isSome then
    let dropped := s.capture.dropWaits
    let s := s.onCapture fun c => { c with i2c := none, dropWaits := false }
    if dropped then (if s.cameraNeeded then nextStep s else enterOff s)
    else
      match failure with
      | none => nextStep s
      | some r => scriptFails r s
  else s

/-! ## The need for the camera (R57, R58 to R63) -/

/-- Whether the open frame is kept. -/
def Capture.openKept (c : Capture) : Bool :=
  match c.openFrame with
  | .kept _ => true
  | .none => false
  | .ignored _ => false

/-- A rise of the need. -/
def needRise (s : State) : State :=
  match s.capture.state with
  | .off => powerUp s
  | .stopping => if s.capture.openKept then setCapture .capturing s else s
  | .powering => s
  | .setup => s
  | .armed => s
  | .capturing => s
  | .lost => s
  | .fault => s

/-- A drop of the need in CAPTURING (R62). -/
def stopCapturing (s : State) : State :=
  if s.capture.frames.isEmpty then enterOff s
  else
    setCapture .stopping (s.onCapture fun c =>
      if c.openKept then c else { c with openFrame := .none, lossTimer := none })

/-- A drop of the need. -/
def needDrop (s : State) : State :=
  match s.capture.state with
  | .off => s
  | .powering => enterOff s
  | .setup => if s.capture.i2c.isSome then s.onCapture fun c => { c with dropWaits := true } else enterOff s
  | .armed => enterOff s
  | .capturing => stopCapturing s
  | .stopping => s
  | .lost => enterOff s
  | .fault => enterOff s

/-- A change of the need since `before` reaches the capture state machine (R57). -/
def followNeed (before : Bool) (s : State) : State :=
  if before = s.cameraNeeded then s else if s.cameraNeeded then needRise s else needDrop s

/-- An operation, followed by the change of the need it makes. -/
def withNeed (f : State → State) (s : State) : State := followNeed s.cameraNeeded (f s)

/-! ## Frame history (R72) -/

/-- POOR after a shift (R72). -/
def poorAfter (history : List FrameMark) (poor : Bool) : Bool :=
  let bad := (history.filter (· == .bad)).length
  if 4 ≤ bad then true else if bad ≤ 2 then false else poor

/-- A mark is shifted into the history and POOR evaluated; both are written (R80). -/
def shiftHistory (m : FrameMark) (s : State) : State :=
  let history := m :: s.capture.history.take 7
  let poor := poorAfter history s.capture.poor
  let changed := poor != s.capture.poor
  let s := noteWritten historyOffsets (s.onCapture fun c => { c with history := history, poor := poor })
  if changed then setFlag .cameraChange s else s

/-! ## Frame stores and completion (R55, R68 to R71) -/

/-- The lowest store that is neither newest published nor read by FRONT (R68). -/
def chooseStore (c : Capture) : Nat :=
  let taken := fun (n : Nat) => c.published.map (·.store) == some n || c.frontReading == some n
  if !taken 0 then 0 else if !taken 1 then 1 else 2

/-- The frame the store writer is at: the oldest that it consumes. -/
def Capture.writing (c : Capture) : Option KeptFrame := c.frames.find? (·.toWriter)

/-- The store writer reaches a start marker and chooses its target store (R68). -/
def reachMarker (s : State) : State :=
  match s.capture.writing with
  | none => s
  | some f =>
    if f.target.isSome then s
    else
      s.onCapture fun c =>
        { c with frames := c.frames.map fun x => if x.id = f.id then { x with target := some (chooseStore c) } else x }

/-- Whether a write of a frame is on the request path. -/
def State.storeInFlight (s : State) (frame : Nat) : Bool :=
  match s.arbiter.path with
  | none => false
  | some i =>
    match i.request.work with
    | .store f _ _ => f == frame
    | .read _ _ => false
    | .status _ _ => false

/-- Whether a frame is complete: closed, with every write done when the writer is a consumer (R55, R70). -/
def isComplete (s : State) (f : KeptFrame) : Bool :=
  f.closed && (!f.toWriter ||
    (!(s.capture.buffer.any fun l => l.frame == f.id && l.forWriter) && !s.storeInFlight f.id))

/-- The publication of a whole frame's store (R70, R80). -/
def publish (f : KeptFrame) (s : State) : State :=
  deliver (refreshLeave (noteWritten publishedOffsets (s.onCapture fun c =>
    { c with published := some ⟨f.target.getD 0, f.number⟩, publications := c.publications + 1 })))

/-- The completion of a frame (R55, R70, R146). -/
def completeFrame (f : KeptFrame) (s : State) : State :=
  let whole := !f.spoiled && !f.faulted
  let s := s.onCapture fun c =>
    { c with
      frames := c.frames.filter fun x => x.id != f.id
      whole := if whole then c.whole + 1 else c.whole
      spoiled := if whole then c.spoiled else c.spoiled + 1 }
  let s := shiftHistory (if whole then .whole else .bad) s
  if whole && f.toWriter then publish f s else if whole && f.toFront then deliver s else s

/-- The frames that are complete complete, oldest first; the writer reaches the next start marker. -/
def completeFrames : Nat → State → State
  | 0, s => s
  | fuel + 1, s =>
    let s := reachMarker s
    match s.capture.frames.find? fun f => isComplete s f && (!f.toWriter || s.capture.writing.map (·.id) == some f.id) with
    | none => s
    | some f => completeFrames fuel (completeFrame f s)

/-- After an event that may complete frames: completions, and OFF when STOPPING has nothing left to wait for (R63). -/
def finishFrames (s : State) : State :=
  let s := completeFrames (s.capture.frames.length + 1) s
  if s.capture.state = .stopping ∧ s.capture.frames.isEmpty then enterOff s else s

/-! ## Frame elements (R52 to R56, R61 to R66) -/

/-- The kept frame with an id. -/
def Capture.frameOf (c : Capture) (id : Nat) : Option KeptFrame := c.frames.find? fun f => f.id == id

/-- Change a kept frame. -/
def Capture.onFrame (c : Capture) (id : Nat) (f : KeptFrame → KeptFrame) : Capture :=
  { c with frames := c.frames.map fun x => if x.id = id then f x else x }

/-- The verdict of a frame at its close (R55). -/
def spoiledAtClose (threshold : Nat) (f : KeptFrame) : Bool :=
  f.missing != 0 || decide (threshold < f.suspect) || f.overrun

/-- The open kept frame is closed (R55). -/
def closeKept (id : Nat) (s : State) : State :=
  match s.capture.frameOf id with
  | none => s.onCapture fun c => { c with openFrame := .none }
  | some f =>
    let rest := s.capture.record.height - f.expected
    let g := { f with missing := f.missing + rest, closed := true }
    let s := s.onCapture fun c =>
      { c.onFrame id fun _ => { g with spoiled := spoiledAtClose c.record.threshold g } with
        openFrame := .none
        missingLines := c.missingLines + wordOfNat rest }
    finishFrames (closeDirect id s)

/-- The open frame is closed (R53): a kept one with its verdict, an ignored one without. -/
def closeOpen (s : State) : State :=
  match s.capture.openFrame with
  | .none => s
  | .ignored _ => s.onCapture fun c => { c with openFrame := .none }
  | .kept id => closeKept id s

/-- A kept frame is opened (R61, R62, R65, R80): the writer and FRONT become its consumers, FRONT is locked when it takes
the frame direct, the line it had begun completed first (R159), and the guide line engine starts a computation. -/
def openKept (number : Byte) (s : State) : State :=
  let id := s.capture.nextFrame
  let front := s.locksFront
  let record := s.capture.record
  let s := s.onCapture fun c =>
    { c with
      nextFrame := id + 1
      openFrame := .kept id
      decimation := 0
      frames := c.frames ++ [⟨id, number, 0, 0, 0, false, s.storesInUse, front, false, false, false, none, record⟩] }
  let s := reachMarker s
  guideFrameCode (if front then startFront (some ⟨id, false, record.width, record.height⟩) (completeLine s) else s)

/-- A frame start code restarts the loss timer (R56). -/
def restartLoss (s : State) : State := s.onCapture fun c => { c with lossTimer := some (msSamples 100) }

/-- A frame start code in CAPTURING opens the next frame, kept or ignored (R62). -/
def openNext (number : Byte) (s : State) : State :=
  if s.capture.decimation = s.capture.record.decimation then openKept number s
  else
    s.onCapture fun c =>
      { c with openFrame := .ignored number, decimation := c.decimation + 1, ignored := c.ignored + 1 }

/-- A frame start code in STOPPING closes the open frame; the loss timer stops after the close (R63). -/
def startCodeStopping (s : State) : State :=
  if s.capture.openKept then closeOpen (s.onCapture fun c => { c with lossTimer := none }) else s

/-- A frame start code (R52, R53, R61 to R63). -/
def frameCode (number : Byte) (s : State) : State :=
  match s.capture.state with
  | .armed => setCapture .capturing (openKept number (restartLoss s))
  | .lost => setCapture .capturing (openKept number (restartLoss s))
  | .capturing => openNext number (closeOpen (restartLoss s))
  | .stopping => startCodeStopping s
  | .off => s
  | .powering => s
  | .setup => s
  | .fault => s

/-- A frame end code (R53, R55, R63). -/
def frameEndElement (s : State) : State :=
  match s.capture.state with
  | .capturing => closeOpen s
  | .stopping => if s.capture.openKept then closeOpen (s.onCapture fun c => { c with lossTimer := none }) else s
  | .armed => s
  | .lost => s
  | .off => s
  | .powering => s
  | .setup => s
  | .fault => s

/-- Lines of a frame counted missing (R54). -/
def countMissing (id n : Nat) (s : State) : State :=
  s.onCapture fun c =>
    { c.onFrame id fun f => { f with missing := f.missing + n } with missingLines := c.missingLines + wordOfNat n }

/-- A good or suspect line is offered to the line buffer (R54, R65, R66); a row FRONT does not use is taken at its entry
(R160), and a row of a frame with a write fault is not kept for the writer (R69). -/
def offerLine (id row : Nat) (payload : List Byte) (s : State) : State :=
  match s.capture.frameOf id with
  | none => s
  | some f =>
    if !f.toWriter && !f.toFront then s
    else if 8 ≤ s.capture.buffer.length then
      s.onCapture fun c =>
        { c.onFrame id fun f => { f with overrun := true } with overruns := c.overruns + 1 }
    else
      let line : BufLine := ⟨id, row, payload, f.toWriter && !f.faulted, f.toFront && frontUses s id row, 0, f.toWriter && !f.faulted⟩
      s.onCapture fun c => { c with buffer := keepTaken (c.buffer ++ [line]) }

/-- A line in order (R54): the expected number goes on; a wrong length is missing, a differing check suspect. -/
def lineInOrder (id row : Nat) (payload : List Byte) (check : Half) (s : State) : State :=
  let s := s.onCapture fun c => c.onFrame id fun f => { f with expected := row + 1 }
  if payload.length ≠ 2 * s.capture.record.width then countMissing id 1 s
  else
    let s := if lineCheck payload = check then s
      else s.onCapture fun c =>
        { c.onFrame id fun f => { f with suspect := f.suspect + 1 } with suspectLines := c.suspectLines + 1 }
    offerLine id row payload s

/-- A line packet (R53, R54). -/
def linePacketElement (row : Nat) (payload : List Byte) (check : Half) (s : State) : State :=
  if !s.camPwr then s
  else
    match s.capture.openFrame with
    | .none => s
    | .ignored _ => s
    | .kept id =>
      match s.capture.frameOf id with
      | none => s
      | some f =>
        if s.capture.record.height ≤ row ∨ row < f.expected then countMissing id 1 s
        else lineInOrder id row payload check (if f.expected < row then countMissing id (row - f.expected) s else s)

/-- The loss timer expires in ARMED or CAPTURING (R56, R72). -/
def loseLink (s : State) : State :=
  let s := (loseOpen s).onCapture fun c => { c with losses := c.losses + 1, lossTimer := none }
  setCapture .lost (shiftHistory .bad s)

/-- The loss timer expires (R56). -/
def expireLoss (s : State) : State :=
  if s.capture.lossTimer.isNone then s
  else
    match s.capture.state with
    | .armed => loseLink s
    | .capturing => loseLink s
    | .stopping => enterOff ((loseOpen s).onCapture fun c => { c with losses := c.losses + 1 })
    | .off => s
    | .powering => s
    | .setup => s
    | .lost => s
    | .fault => s

/-! ## The store writer (R69) -/

/-- A pair Y0, U, Y1, V as two WIDE32 pixels (R69). -/
def wideBytes : List Byte → List Byte
  | y0 :: u :: y1 :: v :: rest => [v, u, y0, 255, v, u, y1, 255] ++ wideBytes rest
  | _ => []

/-- The bytes of a line as it is stored (R69). -/
def storedBytes (wide : Bool) (payload : List Byte) : List Byte := if wide then wideBytes payload else payload

/-- Where a frame's rows are stored: the record it was received under, its store addresses and the target chosen. -/
def KeptFrame.destination (f : KeptFrame) : Option (CameraRecord × Addr) :=
  f.record.stores.bind fun st => f.target.map fun t => (f.record, st.get t)

/-- The store writer's next request: the next burst of the oldest line it holds (R69, R168). -/
def writerRequest (s : State) : Option Request :=
  match s.capture.buffer.find? (·.forWriter) with
  | none => none
  | some l =>
    match (s.capture.frameOf l.frame).bind KeptFrame.destination with
    | none => none
    | some (r, store) =>
      let bytes := (storedBytes r.wide l.payload).drop l.issued
      if bytes.isEmpty then none
      else
        let addr := store + BitVec.ofNat 64 (l.row * r.pitch + l.issued)
        some ⟨.storeWriter, addr, .store l.frame l.row (bytes.take (firstRun addr bytes.length))⟩

/-- The lines the half mark counts: those held whose frame has the store writer as a consumer (R66, R168, log 42). -/
def writerLines (c : Capture) : Nat := (c.buffer.filter (·.counted)).length

/-- A burst of a row has been granted. -/
def issueBurst (frame row n : Nat) (s : State) : State :=
  s.onCapture fun c =>
    { c with buffer := c.buffer.map fun l => if l.frame = frame ∧ l.row = row then { l with issued := l.issued + n } else l }

/-- Whether the last burst of a line has been granted. -/
def Capture.allIssued (c : Capture) (l : BufLine) : Bool :=
  match c.frameOf l.frame with
  | none => false
  | some f => decide ((storedBytes f.record.wide l.payload).length ≤ l.issued)

/-- A burst of a row has been sent: after its last burst the writer has taken the line (R65, R69). -/
def burstSent (frame row : Nat) (s : State) : State :=
  finishFrames (s.onCapture fun c =>
    { c with buffer := keepTaken (c.buffer.map fun l =>
        if l.frame = frame ∧ l.row = row ∧ c.allIssued l then { l with forWriter := false } else l) })

/-- A burst ended with a fault: the frame is spoiled and the writer gives up its lines (R69). -/
def burstFault (frame : Nat) (s : State) : State :=
  finishFrames (s.onCapture fun c =>
    { c.onFrame frame fun f => { f with faulted := true } with
      buffer := keepTaken (c.buffer.map fun l =>
        if l.frame = frame then { l with forWriter := false, counted := false } else l) })

/-! ## DETACH (R78) -/

/-- The asked-on mark is cleared, and the capture state follows the drop of the need (R57, R78). -/
def clearAskedOn (s : State) : State := withNeed (fun s => s.onCapture fun c => { c with askedOn := false }) s

/-- The store writer is a consumer of the lines held no more (R65), and no store is published or read (R78). -/
def Capture.dropStores (c : Capture) : Capture :=
  { c with
    buffer := c.buffer.map fun l => { l with counted := false }
    published := none
    frontReading := none }

/-- DETACH at the capture unit (R78): the asked-on mark is cleared first. When stores were in use the frames not complete
are abandoned; when they were not, those that the store writer still consumes, as it has no store while DETACHED (R175).
A camera in STOPPING that waits for no frame then is OFF (R63). A CAMERA_LOAD in reading is discarded (R75). -/
def detachCapture (stores : Bool) (s : State) : State :=
  let s := clearAskedOn (s.onCapture fun c => { c with load := none, loadSerial := c.loadSerial + 1 })
  let s := refreshLeave ((abandonFrames (fun f => stores || f.toWriter) s).onCapture Capture.dropStores)
  if s.capture.state = .stopping ∧ s.capture.frames.isEmpty then enterOff s else s

end Sys2Proof.Machine
end

