-- ==== Sys2Proof/Machine/Asks.lean ====
section
/-! DEFINITION. The ask board (9.7): handing an ask to its slot's owner, the camera asks with CAMERA_LOAD (3.8), the
mixer ask (R117) and the spare slots. -/

namespace Sys2Proof.Machine

/-- The slot of the camera asks and of MIXER_SET (9.7). -/
def cameraSlot : Nat := 2
def mixerSlot : Nat := 6

/-! ## Camera asks (R74, R75) -/

/-- CAMERA_ON (R74). -/
def switchCameraOn (q : Word) (s : State) : State :=
  takeAsk cameraSlot q .done (withNeed (fun s => s.onCapture fun c => { c with askedOn := true }) s)

/-- CAMERA_OFF (R74): the mark is cleared and the reverse view told (R152). -/
def switchCameraOff (q : Word) (s : State) : State :=
  takeAsk cameraSlot q .done
    (withNeed (fun s => viewCameraOff (s.onCapture fun c => { c with askedOn := false })) s)

/-- CAMERA_LOAD begins reading its three records (R75). -/
def beginLoad (q : Word) (s : State) : State :=
  let n := s.capture.loadSerial + 1
  let s := s.onCapture fun c => { c with load := some ⟨none, none, [], false⟩, loadSerial := n }
  let s := s.onSlot cameraSlot fun x => { x with reading := some q }
  makeRead (.script n 0) (s.areaAddr 0x5000) 256
    (makeRead (.geometryRecord n) (s.areaAddr 0x0700) 52 (makeRead (.cameraRecord n) (s.areaAddr 0x0600) 48 s))

/-- CAMERA_LOAD handed (R75). -/
def startLoad (q : Word) (s : State) : State :=
  if s.capture.state = .off then beginLoad q s else takeAsk cameraSlot q .refusedState s

/-- A camera ask handed (R74). -/
def takeCameraAsk (a : Ask) (s : State) : State :=
  if a.anyFrom 0 then takeAsk cameraSlot a.sequence .refusedField s
  else if a.code = 0x10 then startLoad a.sequence s
  else if a.code = 0x11 then switchCameraOn a.sequence s
  else if a.code = 0x12 then switchCameraOff a.sequence s
  else takeAsk cameraSlot a.sequence .refusedField s

/-- The load fault in the camera status (R200). -/
def loadFaultOffset : Nat := 0x8A44

/-- The kept camera record in the camera status (R200). -/
def keptRecordOffset : Nat := 0x8A80

/-- A load fails its checks (R75). -/
def failLoad (q : Word) (f : LoadFault) (s : State) : State :=
  takeAsk cameraSlot q .refusedField (noteWritten [loadFaultOffset] (s.onCapture fun c => { c with loadFault := f }))

/-- All three parts are replaced together, and the record is written (R75, R80, R88). A frame from before OFF that the
writer has not finished goes on by the record it was received under (R71, log 25). -/
def acceptLoad (q : Word) (r : CameraRecord) (g : Geometry) (script : List ScriptStep) (s : State) : State :=
  takeAsk cameraSlot q .done (refreshLeave (dropGuideSets (noteWritten [loadFaultOffset, keptRecordOffset]
    (s.onCapture fun c =>
      { c with record := r, geometry := some g, script := script, loads := c.loads + 1, loadFault := .none }))))

/-- The reads of a CAMERA_LOAD are complete: the three checks in order (R75 to R77, R85). DESIGN CHOICE: the camera has
left OFF when its state is another one now; one that left OFF and is OFF again passes (log 46). -/
def decideLoad (q : Word) (camera geometry script : List Byte) (s : State) : State :=
  if s.capture.state ≠ .off then takeAsk cameraSlot q .refusedState s
  else if !cameraRecordValid s.port.base (s.area .front) camera then failLoad q .camera s
  else if !geometryValid (geometryOf geometry) then failLoad q .geometry s
  else
    match readScript 64 script with
    | .steps l => acceptLoad q (cameraRecordOf camera) (geometryOf geometry) l s
    | .short => failLoad q .script s
    | .bad => failLoad q .script s

/-- The load is decided once its three reads have completed (R75). -/
def finishLoad (s : State) : State :=
  match s.capture.load, (s.slot cameraSlot).reading with
  | some l, some q =>
    match l.camera, l.geometry with
    | some c, some g =>
      if l.scriptRead then decideLoad q c g l.script (s.onCapture fun c => { c with load := none }) else s
    | some _, none => s
    | none, _ => s
  | some _, none => s
  | none, _ => s

/-- A change of the load in reading, when the read belongs to it. -/
def onLoad (serial : Nat) (f : CameraLoad → CameraLoad) (s : State) : State :=
  if s.capture.loadSerial = serial then finishLoad (s.onCapture fun c => { c with load := c.load.map f }) else s

/-- A part of the script has been read (R75): the next is read unless its END has been reached or its 2 KiB are read. -/
def scriptPartDone (serial part : Nat) (bytes : List Byte) (s : State) : State :=
  if s.capture.loadSerial = serial ∧ s.capture.load.isSome then
    let all := ((s.capture.load.map (·.script)).getD []) ++ bytes
    if scriptEnds (all.length + 1) all = false ∧ part < 7 then
      makeRead (.script serial (part + 1)) (s.areaAddr (0x5000 + 256 * (part + 1))) 256
        (s.onCapture fun c => { c with load := c.load.map fun l => { l with script := all } })
    else onLoad serial (fun l => { l with script := all, scriptRead := true }) s
  else s

/-- A read of a load ends with a fault: the ask is not taken (R75). -/
def loadFaulted (serial : Nat) (s : State) : State :=
  if s.capture.loadSerial = serial ∧ s.capture.load.isSome then
    giveUpAsk cameraSlot (s.onCapture fun c => { c with load := none, loadSerial := c.loadSerial + 1 })
  else s

/-! ## MIXER_SET (R117) -/

/-- A mixer ask handed. -/
def takeMixerAsk (a : Ask) (s : State) : State :=
  if a.code ≠ 0x30 ∨ a.anyFrom 0 then takeAsk mixerSlot a.sequence .refusedField s
  else
    makeRead .mixerSet (s.areaAddr 0x0400) 16
      (s.onSlot mixerSlot fun x => { x with reading := some a.sequence })

/-- The routing record of a MIXER_SET has been read: DONE waits for the next block end, a refusal is answered at once. -/
def mixerSetDone (bytes : List Byte) (s : State) : State :=
  match (s.slot mixerSlot).reading with
  | none => s
  | some q =>
    let s := handleRouting (routingOf bytes) false s
    if copyTaken s then takeAsk mixerSlot q .empty (s.onPoller fun p => { p with mixerWaits := true })
    else takeAsk mixerSlot q .refusedField s

/-- The DONE of a MIXER_SET at the first block end after its record is taken (R117). -/
def answerMixerSet (s : State) : State :=
  if s.poller.mixerWaits then writeResult mixerSlot .done (s.onPoller fun p => { p with mixerWaits := false }) else s

/-! ## The ask board (R187) -/

/-- An ask in a spare slot. -/
def takeSpareAsk (n : Nat) (a : Ask) (s : State) : State :=
  takeAsk n a.sequence (if a.code = 0 then .done else .refusedField) s

/-- The owner of a slot acts on an ask. -/
def askOwner (n : Nat) (a : Ask) (s : State) : State :=
  match n with
  | 0 => takeStreamAsk .f0 a s
  | 1 => takeStreamAsk .f1 a s
  | 2 => takeCameraAsk a s
  | 3 => takeDisplayAsk .front a s
  | 4 => takeDisplayAsk .rearL a s
  | 5 => takeDisplayAsk .rearR a s
  | 6 => takeMixerAsk a s
  | _ => takeSpareAsk n a s

/-- Whether an ask of a slot is in reading (R187), or waits for its DONE (R117). -/
def slotBusy (s : State) (n : Nat) : Bool := (s.slot n).reading.isSome || (n == mixerSlot && s.poller.mixerWaits)

/-- Whether a slot takes an ask with a sequence: while ATTACHED, with no ask of it in reading or waiting for its DONE, now
or at the block end that made the board read, and a sequence other than the last taken (R187, R117). -/
def slotTakes (s : State) (n : Nat) (sequence : Word) : Bool :=
  s.port.attached && !slotBusy s n && !s.poller.passed.contains n && sequence != (s.slot n).lastTaken

/-- The slots of a half of the ask board (R187). -/
def boardSlots (upper : Bool) : List Nat := if upper then [8, 9, 10, 11] else [0, 1, 2, 3, 4, 5, 6, 7]

/-- A half of the ask board is read at a block end, unless its last read has not ended (R186): what it hands passes over
the slots that are busy now (R187). -/
def pollAskBoard (upper : Bool) (s : State) : State :=
  if s.reading (.askBoard upper) then s
  else
    let busy := (boardSlots upper).filter (slotBusy s)
    let s := s.onPoller fun p => { p with passed := p.passed.filter (fun n => !(boardSlots upper).contains n) ++ busy }
    makeRead (.askBoard upper) (s.areaAddr (if upper then 0x0200 else 0x0100)) (if upper then 128 else 256) s

/-- An ask as a slot holds it, handed to its owner when the slot takes it (R187). -/
def handAsk (n : Nat) (a : Ask) (s : State) : State := if slotTakes s n a.sequence then askOwner n a s else s

/-- The asks of a completed ask board request: slots 0 to 7, or 8 to 11 (R187). -/
def handAskBoard (upper : Bool) (bytes : List Byte) (s : State) : State :=
  (List.range (if upper then 4 else 8)).foldl
    (fun s k => handAsk ((if upper then 8 else 0) + k) (askAt bytes (32 * k)) s) s

end Sys2Proof.Machine
end

