-- ==== Sys2Proof/Machine/Status.lean ====
section
/-! DEFINITION. The status page (11.8): every field as a function of the state that the blocks hold, in ascending order of
offsets. A command's changes become status writes by comparing the fields before and after it (R170, R195). -/

namespace Sys2Proof.Machine

/-- A status field: its offset, the bytes its one write holds (R200), and its rank in the order of writes made by one
event: 0 a detail, 1 a count, 2 a notice count, 3 a field that no event but an attach writes (R170, R193). -/
structure StatusField where
  off : Nat
  data : List Byte
  rank : Nat
deriving DecidableEq, Repr

def detail (off : Nat) (w : Word) : StatusField := ⟨off, wordBytes w, 0⟩
def counter (off : Nat) (w : Word) : StatusField := ⟨off, wordBytes w, 1⟩
def bulk (off : Nat) (bytes : List Byte) : StatusField := ⟨off, bytes, 0⟩

/-- Fields at consecutive words from an offset. -/
def detailsFrom (off : Nat) (l : List Word) : List StatusField := l.mapIdx fun i w => detail (off + 4 * i) w
def countersFrom (off : Nat) (l : List Word) : List StatusField := l.mapIdx fun i w => counter (off + 4 * i) w

/-! ## Codes (R200) -/

def AskResult.code : AskResult → Word
  | .empty => 0
  | .done => 1
  | .refusedState => 2
  | .refusedField => 3
  | .superseded => 4

def ChimeAnswer.code : ChimeAnswer → Word
  | .none => 0
  | .waiting => 1
  | .playing => 2
  | .finished => 3
  | .stopped => 4
  | .suppressed => 5
  | .refused => 6

def StreamState.code : StreamState → Word
  | .stopped => 0
  | .priming => 1
  | .playing => 2
  | .paused => 3
  | .starved => 4

def ClockMode.code : ClockMode → Word
  | .sound => 0
  | .free => 1

def CaptureState.code : CaptureState → Word
  | .off => 0
  | .powering => 1
  | .setup => 2
  | .armed => 3
  | .capturing => 4
  | .stopping => 5
  | .lost => 6
  | .fault => 7

def View.code : View → Word
  | .off => 0
  | .waking => 1
  | .showing => 2
  | .unavailable => 3
  | .linger => 4

def FrontMode.code : FrontMode → Word
  | .normal => 0
  | .reverse => 1
  | .direct => 2

def Freshness.code : Freshness → Word
  | .fresh => 0
  | .held => 1
  | .static => 2

def SetKind.code : SetKind → Word
  | .live => 1
  | .held => 2
  | .static => 3

def Level.code : Level → Word
  | .full => 0
  | .reduced => 1
  | .minimal => 2

def BankFault.code : BankFault → Word
  | .none => 0
  | .select => 1
  | .count => 2
  | .read => 3

def Bank.code : Bank → Word
  | .a => 0
  | .b => 1

def ScriptFault.code : ScriptFault → Word
  | .none => 0
  | .nackAddress => 1
  | .nackData => 2
  | .busTimeout => 3

def LoadFault.code : LoadFault → Word
  | .none => 0
  | .camera => 1
  | .geometry => 2
  | .script => 3

def ProximityState.code : ProximityState → Word
  | .inactive => 0
  | .beep => 1
  | .gap => 2
  | .releasing => 3
  | .starting => 4

def ChimeSource.code : ChimeSource → Nat
  | .card n => n
  | .cameraUnavailable => 8
  | .sensingUnavailable => 9

def AreaFaultKind.code : AreaFaultKind → Word
  | .select => 1
  | .bankCount => 2
  | .bankRead => 3
  | .routing => 4
  | .postedCount => 5
  | .attach => 6
  | .selfDetach => 7

def faultCode : FaultKind → Word
  | .error => 1
  | .corrupted => 2
  | .length => 3
  | .timeout => 4
  | .notSent => 5

def Client.code : Client → Word
  | .front => 0
  | .rearL => 1
  | .rearR => 2
  | .twin => 3
  | .storeWriter => 4
  | .audio => 5
  | .poller => 6

def LateMark.code : LateMark → Byte
  | .empty => 0
  | .onTime => 1
  | .late => 2

def FrameMark.code : FrameMark → Byte
  | .empty => 0
  | .whole => 1
  | .bad => 2

/-! ## The parts of the page -/

/-- Area status (0x8000). -/
def areaFields (s : State) : List StatusField :=
  let f := s.notice.lastFault
  [⟨0x8000, wordBytes 1, 3⟩, ⟨0x8004, wordBytes s.port.attachCount, 3⟩, detail 0x8008 s.port.blockCount] ++
  countersFrom 0x800C
    [s.poller.frameErrors.f0, s.poller.frameErrors.f1, s.poller.soundErrors.f0, s.poller.soundErrors.f1] ++
  (s.notice.counts.mapIdx fun i w => ⟨0x8020 + 4 * i, wordBytes w, 2⟩) ++
  detailsFrom 0x8040
    [(f.map (·.kind.code)).getD 0, (f.map (·.place)).getD 0, (f.map (·.blockCount)).getD 0]

/-- Ask answer records (0x8100). DESIGN CHOICE: the unused word is 0 (log 60). -/
def answerFields (s : State) : List StatusField :=
  s.poller.slots.mapIdx fun n a =>
    bulk (0x8100 + 16 * n) (wordBytes a.answered ++ wordBytes a.result.code ++ wordBytes a.blockCount ++ wordBytes 0)

/-- Chime answer records (0x8200). -/
def cardFields (s : State) : List StatusField :=
  s.chime.cards.mapIdx fun n k =>
    bulk (0x8200 + 16 * n) (wordBytes k.answered ++ wordBytes k.state.code ++ wordBytes k.done ++ wordBytes k.blockCount)

/-- The host tag of a display's current card, 0 with card none. -/
def Film.tag (f : Film) (d : Display) : Word :=
  match f.current.get d with
  | none => 0
  | some k => ((f.frameAt k).map (·.tag)).getD 0

/-- A stream status. -/
def streamFields (off : Nat) (f : Film) : List StatusField :=
  detailsFrom off
    [f.state.code, f.mode.code, f.clockShown, f.frameReleased, f.soundReleased, f.current.front.getD noneWord,
     f.current.rearL.getD noneWord, f.current.rearR.getD noneWord, f.tag .front, f.tag .rearL, f.tag .rearR] ++
  countersFrom (off + 0x2C) [f.dropped, f.badFrames, f.badSounds, f.underruns, f.starves, f.misses] ++
  [detail (off + 0x44) (f.superseded.getD 0)]

/-- The blank reasons as bits. -/
def BlankReasons.bits (r : BlankReasons) : Word :=
  wordOfBool r.user ||| (wordOfBool r.quiet <<< 1) ||| (wordOfBool r.restart <<< 2) ||| (wordOfBool r.detached <<< 3)

/-- The set of bad entry places of a bank, bit p for place p. -/
def badPlaces (l : List Entry) : Word :=
  (l.mapIdx fun p e => if e.bad then (1#32 <<< p) else 0).foldl (· ||| ·) 0

/-- A display status. -/
def displayFields (s : State) (d : Display) : List StatusField :=
  let off := 0x8600 + 0x100 * displayIndex d
  let c := s.composer d
  let t := s.timing d
  let n := wordOfNat
  detailsFrom off
    [n t.activeW, n t.activeH, n t.totalW, n t.totalH, n t.divider, n t.lead, wordOfBool t.pair, wordOfBool c.blank,
     c.reasons.bits, (c.shown.map (·.bank.code)).getD noneWord, (c.shown.map (·.count)).getD 0, badPlaces c.entries,
     c.bankFault.code] ++
  countersFrom (off + 0x34) [c.entryBad, c.refusals] ++
  [detail (off + 0x3C) c.level.code, bulk (off + 0x40) (c.history.map (·.code)),
   detail (off + 0x48) ((c.held.map (·.code)).getD noneWord), counter (off + 0x4C) c.lateFrames,
   detail (off + 0x50) (wordOfBool (d != .front && s.twin.inUse))]

/-- Camera status (0x8A00). -/
def cameraFields (s : State) : List StatusField :=
  let c := s.capture
  detailsFrom 0x8A00
    [c.state.code, wordOfBool c.askedOn, wordOfIndex (c.published.map (·.store)),
     (c.published.map fun p => p.number.setWidth 32).getD noneWord] ++
  [counter 0x8A10 c.publications, bulk 0x8A14 (c.history.map (·.code)), detail 0x8A1C (wordOfBool c.poor)] ++
  countersFrom 0x8A20
    [c.whole, c.spoiled, c.ignored, c.suspectLines, c.missingLines, c.overruns, c.losses] ++
  detailsFrom 0x8A3C [wordOfIndex c.faultStep, c.faultReason.code, c.loadFault.code] ++
  [counter 0x8A48 c.loads, bulk 0x8A80 c.record.bytes]

/-- The δ field of a set: the straight mark or the angle. -/
def GuideSet.deltaWord (g : GuideSet) : Word :=
  match g.turn with
  | none => 0x80000000
  | some t => wordOfInt t.1

/-- The marks present, bits 0 to 2. -/
def GuideSummary.markBits (g : GuideSummary) : Word :=
  wordOfBool g.mark1 ||| (wordOfBool g.mark2 <<< 1) ||| (wordOfBool g.mark3 <<< 2)

/-- Guide status (0x8B00): kind, angle, δ and ρ of the shown set, none once it is discarded, and the rest of the set last
completed (R101). DESIGN CHOICE: a reference count of value none is 0xFFFFFFFF (log 62). -/
def guideFields (s : State) : List StatusField :=
  let g := s.guide
  let sh := g.shown
  let last := g.summary
  [detail 0x8B00 g.freshness.code, detail 0x8B04 (g.referenceShown.getD noneWord)] ++
  countersFrom 0x8B08 [g.samplesTaken, g.staleCount] ++
  detailsFrom 0x8B10
    [(sh.map (·.kind.code)).getD 0, (sh.map fun x => wordOfInt x.angle).getD 0, (sh.map (·.deltaWord)).getD 0,
     (sh.map fun x => wordOfInt ((x.turn.map (·.2)).getD 0)).getD 0, wordOfNat last.left, wordOfNat last.right,
     last.markBits, wordOfBool last.bar.isSome, wordOfNat (last.bar.getD 0)] ++
  countersFrom 0x8B34 [g.completed, g.abandoned]

/-- The offset of the i-th word of the mixer status as last written: seven words for each route at 32r, then from 0xC0. -/
def mixerOffset (i : Nat) : Nat := if i < 42 then 0x8C00 + 32 * (i / 7) + 4 * (i % 7) else 0x8CC0 + 4 * (i - 42)

/-- Which words of the mixer status are counts: the clip counts and the refusal count. -/
def mixerCount (i : Nat) : Bool := i == 49 || i == 50 || i == 51 || i == 53

/-- Mixer status (0x8C00), as last written (R121). -/
def mixerFields (s : State) : List StatusField :=
  (List.range 54).map fun i => ⟨mixerOffset i, wordBytes (s.mixer.shown.getD i 0), if mixerCount i then 1 else 0⟩

/-- The main voice's state and chime. -/
def voiceWords (v : MainVoice) : List Word :=
  match v with
  | .idle => [0, noneWord, 0, 0]
  | .sounding x => [1, wordOfNat x.chime.source.code, wordOfNat x.chime.cls, wordOfNat x.chime.done]
  | .releasing x _ => [2, wordOfNat x.chime.source.code, wordOfNat x.chime.cls, wordOfNat x.chime.done]

/-- A waiting list entry. DESIGN CHOICE: its unused bytes are 0 (log 60). -/
def waitingEntry (c : Chime) : List Byte :=
  [BitVec.ofNat 8 c.source.code, BitVec.ofNat 8 c.cls, 0, 0] ++ wordBytes (wordOfNat c.done)

/-- The 80 bytes of the waiting list: ten entries, unused ones with source none. -/
def waitingBytes (l : List Chime) : List Byte :=
  ((l.map waitingEntry ++ List.replicate 10 [0xFF#8, 0, 0, 0, 0, 0, 0, 0]).take 10).flatMap id

/-- The state of an internal chime: 0 idle, 1 waiting, 2 playing. -/
def internalCode (c : ChimeEngine) (src : ChimeSource) : Byte := if c.plays src then 2 else if c.waits src then 1 else 0

/-- Chime status (0x8D00). DESIGN CHOICE: the unused bytes behind the internal chimes are 0 (log 60). -/
def chimeFields (s : State) : List StatusField :=
  let c := s.chime
  detailsFrom 0x8D00 (voiceWords c.voice ++ [wordOfNat c.waiting.length]) ++
  [bulk 0x8D18 (waitingBytes c.waiting),
   bulk 0x8D68 [internalCode c .cameraUnavailable, internalCode c .sensingUnavailable, 0, 0],
   detail 0x8D6C c.proximity.state.code, detail 0x8D70 (wordOfNat c.proximity.offTime)] ++
  countersFrom 0x8D74
    [c.finished, c.stopped, c.suppressed, c.refused, c.returns, c.clipMisses, c.droppedRequests]

/-- Reverse status (0x8E00). -/
def reverseFields (s : State) : List StatusField :=
  let r := s.reverse
  detailsFrom 0x8E00
    [wordOfBool r.level, r.view.code, wordOfBool r.delivered, s.frontView.mode.code, wordOfBool s.frontView.locked,
     wordOfBool s.frontView.leave] ++
  countersFrom 0x8E18 [r.engagements, r.unavailables, r.expiries] ++
  [detail 0x8E24 (wordOfIndex r.lastShow)]

/-- Link fault status (0x8F00). -/
def linkFields (s : State) : List StatusField :=
  let a := s.arbiter
  let f := a.lastFault
  countersFrom 0x8F00
    [a.faults.front, a.faults.rearL, a.faults.rearR, a.faults.twin, a.faults.storeWriter, a.faults.audio,
     a.faults.poller, a.total] ++
  detailsFrom 0x8F20 [(f.map (·.client.code)).getD 0, (f.map fun x => faultCode x.kind).getD 0] ++
  [bulk 0x8F28 (addrBytes ((f.map (·.addr)).getD 0))]

/-- Every field of the status page (R200), in ascending order of offsets. -/
def statusFields (s : State) : List StatusField :=
  areaFields s ++ answerFields s ++ cardFields s ++ streamFields 0x8400 s.film.f0 ++ streamFields 0x8500 s.film.f1 ++
  displayFields s .front ++ displayFields s .rearL ++ displayFields s .rearR ++ cameraFields s ++ guideFields s ++
  mixerFields s ++ chimeFields s ++ reverseFields s ++ linkFields s

/-! ## Writes -/

/-- The writes of fields, in their order. -/
def writeFields (l : List StatusField) (s : State) : State := l.foldl (fun s f => makeStatusWrite f.off f.data s) s

/-- The writes of counts, each behind the writes of the fields that its event has changed (R170). -/
def writeCounts (lower data : List Nat) (l : List StatusField) (s : State) : State :=
  l.foldl (fun s f => makeCountWrite lower data f.off f.data s) s

/-- The fields a command writes: those whose bytes differ before and after it, and those that it writes in any case. -/
def changedFields (before after : State) : List StatusField :=
  ((statusFields before).zip (statusFields after)).filterMap fun p =>
    if p.1.data = p.2.data ∧ after.poller.written.contains p.2.off = false then none else some p.2

/-- The fields of a rank. -/
def ofRank (n : Nat) (l : List StatusField) : List StatusField := l.filter (·.rank == n)

/-- The offsets of the fields of a rank. -/
def offsetsOf (n : Nat) (l : List StatusField) : List Nat := (ofRank n l).map (·.off)

/-- The offsets of the displays' bank faults (R200). -/
def bankFaultOffsets : List Nat := [0x8630, 0x8730, 0x8830]

/-- The details of an event in the order they are written: a display's bank fault first (R9), then by offset. -/
def detailsInOrder (l : List StatusField) : List StatusField :=
  let fault := fun (f : StatusField) => bankFaultOffsets.contains f.off
  (ofRank 0 l).filter fault ++ (ofRank 0 l).filter fun f => !fault f

/-- The details, then the counts behind them, then the notice counts behind both (R170, R193). -/
def writeOrdered (l : List StatusField) (s : State) : State :=
  let page := statusFields s
  let s := writeCounts (offsetsOf 0 page) (offsetsOf 0 l) (ofRank 1 l) (writeFields (detailsInOrder l) s)
  writeCounts (offsetsOf 0 page ++ offsetsOf 1 page) (offsetsOf 0 l ++ offsetsOf 1 l) (ofRank 2 l) s

/-- The status writes of a command: while ATTACHED each changed field is written (R170, R195); while DETACHED the blocks
hold their status. -/
def publishStatus (before after : State) : State :=
  if before.port.attached && after.port.attached then
    (writeOrdered (changedFields before after) after).onPoller fun p => { p with written := [] }
  else after

/-- The outcome of a command whose effect is given: the next state, with its status writes made. -/
def commit (before after : State) : Host.Outcome State Fault Refusal := .next (publishStatus before after)

/-! ## Counts (R195) -/

/-- Every count of the page becomes 0, save the attach count and the audio block count. -/
def zeroCounts (s : State) : State :=
  { s with
    notice := { s.notice with counts := List.replicate 8 0 }
    arbiter := { s.arbiter with faults := ⟨0, 0, 0, 0, 0, 0, 0⟩, total := 0 }
    poller := { s.poller with frameErrors := ⟨0, 0⟩, soundErrors := ⟨0, 0⟩ }
    composers := s.composers.map fun c => { c with entryBad := 0, refusals := 0, lateFrames := 0 }
    film := s.film.map fun f =>
      { f with dropped := 0, badFrames := 0, badSounds := 0, underruns := 0, starves := 0, misses := 0 }
    capture := { s.capture with
      publications := 0
      whole := 0
      spoiled := 0
      ignored := 0
      suspectLines := 0
      missingLines := 0
      overruns := 0
      losses := 0
      loads := 0 }
    guide := { s.guide with samplesTaken := 0, staleCount := 0, completed := 0, abandoned := 0 }
    mixer := { s.mixer with
      clips := ⟨0, 0, 0⟩
      refusals := 0
      shown := s.mixer.shown.mapIdx fun i w => if mixerCount i then 0 else w }
    chime := { s.chime with
      finished := 0
      stopped := 0
      suppressed := 0
      refused := 0
      returns := 0
      clipMisses := 0
      droppedRequests := 0 }
    reverse := { s.reverse with engagements := 0, unavailables := 0, expiries := 0 } }

end Sys2Proof.Machine
end

