-- ==== Sys2Proof/WellFormed.lean ====
section
/-! DEFINITION. When a command's operands are ones its event can carry. The types rule out most ill-formed commands;
what they leave is checked here. -/

namespace Sys2Proof

/-- An ask slot holds six parameter words (11.2). -/
def sixWords (params : List Word) : Bool := params.length == 6

/-- The command field of a RUN write, bits 10..8 (R201). -/
def runCommand (value : Word) : Nat := (value.toNat / 256) % 8

/-- A RUN write is NO_COMMAND when its command field is 0 or a value R201 does not name (5 to 7). -/
def isNoCommand (value : Word) : Bool := runCommand value == 0 || 5 ≤ runCommand value

/-- The offsets at which a register write is discarded whatever it holds (R176, R201): IDENT at 0x00 to 0x03 and the
bytes 0x18 to 0x1F. -/
def isIgnoredOffset (offset : Nat) : Bool := offset < 4 || (24 ≤ offset && offset < 32)

/-- The spare ask slots (R187). -/
def isSpareSlot (slot : Nat) : Bool := 7 ≤ slot && slot < 12

/-- Whether a command is one the part can meet. -/
def Instr.wellFormed : Instr → Bool
  | .noCommand v => isNoCommand v
  | .registerWriteIgnored o _ => isIgnoredOffset o
  | .displayTiming _ _ p => sixWords p
  | .displayBlank _ _ p => sixWords p
  | .displayShow _ _ p => sixWords p
  | .spareAsk n _ _ p => isSpareSlot n && sixWords p
  | .streamPlay _ _ p => sixWords p
  | .streamPause _ _ p => sixWords p
  | .streamStop _ _ p => sixWords p
  | .cameraOn _ p => sixWords p
  | .cameraOff _ p => sixWords p
  | .cameraLoad _ p => sixWords p
  | .mixerSet _ p => sixWords p
  | .chimePlay n c => decide (n < 8) && c.ask == 1
  | .chimeStop n _ => decide (n < 8)
  | .coldStart => true
  | .linkReset => true
  | .attach => true
  | .detach => true
  | .quiet => true
  | .wake => true
  | .areaBaseWrite _ _ => true
  | .causeWrite _ => true
  | .maskWrite _ => true
  | .headerReadDone _ _ => true
  | .messageSend => true
  | .frameStart _ => true
  | .frameEnd _ => true
  | .selectWordReadDone _ _ => true
  | .bankReadDone _ _ => true
  | .timingRecordReadDone _ _ => true
  | .lineOutput _ => true
  | .composerFetchDone _ _ => true
  | .askBoardReadDone _ _ => true
  | .postedCountReadDone _ _ => true
  | .cardReadDone _ _ => true
  | .audioBlockEnd => true
  | .audioFetchDone _ _ => true
  | .frameStartCode _ => true
  | .linePacket _ _ _ => true
  | .frameEndCode => true
  | .unrecognisedElement => true
  | .lossTimerExpiry => true
  | .settleExpiry => true
  | .waitStepExpiry => true
  | .i2cWriteDone _ => true
  | .busTimeout => true
  | .cameraLoadReadDone _ _ => true
  | .storeWriteDone => true
  | .vehicleRecordReadDone _ _ => true
  | .freshnessTimerExpiry => true
  | .guideComputationDone => true
  | .routingRecordReadDone _ _ => true
  | .hostChangeApply _ => true
  | .rampEnd _ => true
  | .zoneSaturation _ => true
  | .mixerSetReadDone _ _ => true
  | .chimeTrayReadDone _ _ => true
  | .repetitionEnd => true
  | .releaseEnd => true
  | .beepEnd => true
  | .gapEnd => true
  | .proximityReleaseEnd => true
  | .reverseInChange _ => true
  | .debounceExpiry => true
  | .deadlineExpiry => true
  | .lingerExpiry => true
  | .directFreeRunStart => true
  | .directLineStart => true
  | .requestGrant => true
  | .linkRequestFault _ _ => true
  | .readTimeout _ => true
  | .sendTimeout => true
  | .lateCompletionDiscarded _ => true
  | .statusWriteComplete => true

end Sys2Proof
end

