-- ==== Sys2Proof/Machine/Port.lean ====
section
/-! DEFINITION. The link port (chapter 9): the register window, attaching with the initial contents of the status page,
DETACH, QUIET, WAKE, link reset and cold start, each over the operations of the blocks. -/

namespace Sys2Proof.Machine

/-! ## The register window (R176, R201) -/

/-- The attach result's code in RUN. -/
def AttachResult.code : AttachResult → Nat
  | .none => 0
  | .pending => 1
  | .ok => 2
  | .misaligned => 3
  | .badVersion => 4
  | .readFault => 5

/-- What a read of RUN returns: the command bits read as 0. -/
def runValue (p : Port) : Word :=
  wordOfBool p.attached ||| (wordOfBool p.quiet <<< 1) ||| (wordOfNat p.attachResult.code <<< 4)

/-- What a read of the word at an offset of the window returns. -/
def readWindow (offset : Nat) (s : State) : Word :=
  match offset / 4 with
  | 0 => 0x0B340001
  | 1 => s.port.areaLo
  | 2 => s.port.areaHi
  | 3 => runValue s.port
  | 4 => s.notice.cause.setWidth 32
  | 5 => s.notice.mask.setWidth 32
  | _ => 0

/-- A register read that has arrived: the value held at its arrival, and the tag of a write issued before it that is still
to be sent (R176). Register reads are no commands of the table; this is what the part answers to one (log 35). -/
structure RegisterRead where
  value : Word
  behind : Option Nat
deriving DecidableEq, Repr

/-- Whether a request reads. -/
def Request.isRead (r : Request) : Bool :=
  match r.work with
  | .read _ _ => true
  | .status _ _ => false
  | .store _ _ _ => false

/-- The write on the path. -/
def State.writeIssued (s : State) : Option Nat := (s.arbiter.path.filter fun i => !i.request.isRead).map (·.tag)

/-- A register read arrives at an offset of the window. -/
def arriveRead (offset : Nat) (s : State) : RegisterRead := ⟨readWindow offset s, s.writeIssued⟩

/-- Whether the completion of a register read may be sent: every write issued before it has reached host memory (R176). -/
def RegisterRead.maySend (r : RegisterRead) (s : State) : Bool := r.behind.isNone || s.writeIssued != r.behind

/-- The command a RUN write is taken as: its command field alone (R176). -/
def runInstr (value : Word) : Instr :=
  match runCommand value with
  | 1 => .attach
  | 2 => .detach
  | 3 => .quiet
  | 4 => .wake
  | _ => .noCommand value

/-- The word a write of fewer than 32 bits is taken as: 0 in the bytes not written (R201). -/
def widenWrite (offset : Nat) (bytes : List Byte) : Word :=
  wordAt (List.replicate (offset % 4) 0 ++ bytes.take (4 - offset % 4)) 0

/-- The command that a write of bytes at an offset of the window is (R201). -/
def windowWrite (offset : Nat) (bytes : List Byte) : Instr :=
  let value := widenWrite offset bytes
  match offset / 4 with
  | 1 => .areaBaseWrite .lo value
  | 2 => .areaBaseWrite .hi value
  | 3 => runInstr value
  | 4 => .causeWrite value
  | 5 => .maskWrite value
  | _ => .registerWriteIgnored (4 * (offset / 4)) value

/-- Whether the base may be written: DETACHED and no attach in progress (R177). -/
def Port.baseOpen (p : Port) : Bool := !p.attached && p.attachResult != .pending

/-- A write to AREA_LO or AREA_HI (R177). -/
def Port.writeBase (p : Port) (half : AreaHalf) (value : Word) : Port :=
  if p.baseOpen then
    match half with
    | .lo => { p with areaLo := value }
    | .hi => { p with areaHi := value }
  else p

/-! ## Attaching (R178 to R180) -/

/-- An attach fails with a result (R178, R179, R194). -/
def failAttach (r : AttachResult) (s : State) : State :=
  areaFault .attach (wordOfNat r.code) (s.onPort fun p => { p with attachResult := r })

/-- An ATTACH command (R178). -/
def startAttach (s : State) : State :=
  if !s.port.baseOpen then s
  else if s.port.base.toNat % 65536 ≠ 0 then failAttach .misaligned s
  else makeRead .header s.port.base 256 (s.onPort fun p => { p with attachResult := .pending })

/-- What every block sets at the moment of an attach (R180, R187). With no shown set, the guide status has nothing of the
last completed one (R101). DESIGN CHOICE: a STATIC set that is shown is written as it is (log 57). -/
def attachBlocks (s : State) : State :=
  let s := zeroCounts s
  { s with
    arbiter := { s.arbiter with lastFault := none }
    poller := { s.poller with slots := List.replicate 12 ⟨0, none, 0, .empty, s.port.blockCount⟩ }
    film := s.film.map fun f => { f with clockShown := f.clock }
    guide := { s.guide with
      referenceShown := s.guide.reference
      summary := if s.guide.shown.isSome then s.guide.summary else Guide.reset.summary }
    mixer := { s.mixer with shown := mixerReport s.mixer }
    chime := { s.chime with
      cards := s.chime.cards.map fun k => { k with answered := 0, state := .none, done := 0, blockCount := 0 } } }

/-- The bytes from 0x9000 to 0xFFFF, written 0 (R200), in requests of 256 bytes. -/
def zeroFields : List StatusField :=
  (List.range 112).map fun i => ⟨0x9000 + 256 * i, List.replicate 256 0, 3⟩

/-- The initial contents of the page in ascending order, the attach count last (R180). -/
def initialWrites (s : State) : List StatusField :=
  let l := statusFields s
  l.filter (fun f => f.off != 0x8004) ++ zeroFields ++ l.filter (fun f => f.off == 0x8004)

/-- A good header: the attachment becomes ATTACHED (R179, R180). -/
def becomeAttached (s : State) : State :=
  let s := refreshLeave (attachBlocks (s.onPort fun p =>
    { p with attached := true, attachResult := .ok, attachCount := p.attachCount + 1 }))
  writeFields (initialWrites s) s

/-- Whether an attach is in progress. -/
def State.attaching (s : State) : Bool := !s.port.attached && s.port.attachResult == .pending

/-- The header has been read (R179). -/
def headerDone (bytes : List Byte) (s : State) : State :=
  if s.attaching then (if headerGood bytes then becomeAttached s else failAttach .badVersion s) else s

/-- The header read ended with a fault (R179). -/
def headerFault (s : State) : State := if s.attaching then failAttach .readFault s else s

/-! ## DETACH (R183, R174, R175, R181) -/

/-- The poller's waiting requests are withdrawn, its copies forgotten and its asks in reading left unanswered. -/
def Poller.detach (p : Poller) : Poller :=
  { p with
    order := []
    copies := Poller.reset.copies
    slots := p.slots.map fun a => { a with reading := none }
    trayLow := none
    trayHigh := none
    trayFault := false
    mixerWaits := false
    passed := []
    written := [] }

/-- Outstanding reads run on and are discarded, and so does what is on the path; the consecutive fault counts become 0
(R175). -/
def Arbiter.detach (a : Arbiter) : Arbiter :=
  { a with
    path := a.path.map fun i => { i with live := false }
    outstanding := a.outstanding.map fun i => { i with live := false }
    consecutive := ⟨0, 0, 0, 0, 0, 0, 0⟩ }

/-- The traffic side of DETACH. -/
def detachTraffic (s : State) : State :=
  { s with
    poller := s.poller.detach
    arbiter := s.arbiter.detach
    audio := { s.audio with queue := [] } }

/-- DETACH at every block (R183). -/
def detachBlocks (stores : Bool) (s : State) : State :=
  let s := detachStream .f1 (detachStream .f0 (detachComposers s))
  let s := detachGuide (detachCapture stores s)
  refreshLeave (detachTraffic (detachChimes (detachMixer s)))

/-- The part becomes DETACHED with an attach result. -/
def detachPart (r : AttachResult) (s : State) : State :=
  detachBlocks s.storesInUse (s.onPort fun p => { p with attached := false, attachResult := r })

/-- A DETACH command (R181, R183). -/
def detachCommand (s : State) : State :=
  if s.port.attached then detachPart .none s
  else if s.attaching then detachTraffic (s.onPort fun p => { p with attachResult := .none })
  else s

/-- The part detaches itself after a client's sixteenth fault (R174). -/
def selfDetach (c : Client) (s : State) : State := areaFault .selfDetach c.code (detachPart .readFault s)

/-! ## QUIET and WAKE (R184) -/

/-- Every count is set to 0 and written while ATTACHED (R184, R195). -/
def clearCounts (s : State) : State :=
  let s := zeroCounts s
  if s.port.attached then writeFields ((statusFields s).filter fun f => f.rank == 1 || f.rank == 2) s else s

/-- The activity becomes q; the asked-on mark counts only while ACTIVE (R57). -/
def setQuiet (q : Bool) (s : State) : State := withNeed (fun s => s.onPort fun p => { p with quiet := q }) s

/-- QUIET at every block, its counts already 0 (R184). -/
def quietBlocks (s : State) : State := quietMixer (setQuiet true s)

/-- A WAKE command. -/
def wakeCommand (s : State) : State := if s.port.quiet then wakeMixer (setQuiet false s) else s

/-! ## Link reset and cold start (R185, R175, R196) -/

/-- Every waiting request and every outstanding read ends; a write already issued still reaches host memory (R71, R181);
the rear pointer is REAR_L. -/
def Arbiter.linkReset (a : Arbiter) : Arbiter :=
  { a with
    path := a.path.filter fun i => !i.request.isRead
    outstanding := []
    rearTurn := .rearL
    consecutive := ⟨0, 0, 0, 0, 0, 0, 0⟩ }

/-- CAUSE, MASK and the message mark are cleared (R192, R196). -/
def Notice.linkReset (n : Notice) : Notice := { n with cause := 0, mask := 0, message := false }

/-- A link reset. -/
def linkResetCommand (s : State) : State :=
  let s := detachPart .none s
  let s := setQuiet false (s.onPort fun p => { p with areaLo := 0, areaHi := 0 })
  let s := { s with composers := s.composers.map Composer.linkReset, arbiter := s.arbiter.linkReset }
  let s := retargetAll (s.onMixer fun m => { m with quietMute := false, wakeMark := false })
  s.onNotice Notice.linkReset

/-- A cold start: the reset state, the raw level of REVERSE_IN as it stands, and a debounce of it when it reads ENGAGED
(R144). Host memory and the commands that wait are not the part's to clear. -/
def coldStartCommand (s : State) : State :=
  { State.reset with
    arbiter := { Arbiter.reset with nextTag := s.arbiter.nextTag }
    reverse := { Reverse.reset with
      raw := s.reverse.raw
      debounce := if s.reverse.raw then some (msSamples 20) else none }
    memory := s.memory
    pending := s.pending }

end Sys2Proof.Machine
end

