-- ==== Sys2Proof/Machine/Traffic.lean ====
section
/-! DEFINITION. Memory traffic (chapter 8): the request each client presents, the grant, the completion of reads and
writes, and faults with self-detach. -/

namespace Sys2Proof.Machine

/-! ## The requests that clients present (R166) -/

/-- A read of part of a source row by a composer. -/
def rowRequest (client : Client) (p : Pixels) (f : RowFetch) (what : ReadOf) : Request :=
  let addr := p.rowAddr f.row f.offset
  ⟨client, addr, .read what (firstRun addr (p.rowBytes - f.offset))⟩

/-- The composer's client. -/
def displayClient : Display → Client
  | .front => .front
  | .rearL => .rearL
  | .rearR => .rearR

/-- Whether a fetch is near enough to the line a frame outputs next (R20, log 2). -/
def fetchDue (line next : Int) : Bool := decide (line ≤ next + Config.fetchAheadLines)

/-- The request of a composer: the first fetch of its frame's plan that is due. -/
def composerRequest (s : State) (d : Display) : Option Request :=
  match (s.composer d).frame with
  | none => none
  | some f =>
    match f.plan with
    | [] => none
    | r :: _ =>
      if fetchDue r.line f.nextLine then
        (f.layers[r.layer]?).bind fun l => l.source.pixels.map fun p =>
          rowRequest (displayClient d) p r (.layerRow d f.serial r.layer r.row r.offset)
      else none

/-- How far a rear frame has come, in lines of the shared film layer. -/
def twinNext (s : State) (c : Composer) (top : Int) : Int :=
  match c.frame with
  | none => (s.timing .rearL).activeH - top
  | some f => f.nextLine - top

/-- The request of the twin fetch. -/
def twinRequest (s : State) : Option Request :=
  match s.twin.plan with
  | [] => none
  | r :: _ =>
    if s.twin.inUse && (fetchDue r.line (twinNext s s.composers.rearL s.twin.topL) ||
        fetchDue r.line (twinNext s s.composers.rearR s.twin.topR)) then
      some (rowRequest .twin s.twin.pixels r (.twinRow s.twin.serial r.row r.offset))
    else none

/-- The waiting request of a client. -/
def waitingRequest (s : State) : Client → Option Request
  | .front => composerRequest s .front
  | .rearL => composerRequest s .rearL
  | .rearR => composerRequest s .rearR
  | .twin => twinRequest s
  | .storeWriter => writerRequest s
  | .audio => s.audio.queue.head?
  | .poller => s.poller.order.head?

/-! ## The grant (R167 to R170) -/

/-- A write is always eligible, a read while fewer than 16 are outstanding (R167). -/
def eligible (s : State) (r : Request) : Bool := !r.isRead || decide (s.arbiter.outstanding.length < 16)

/-- The rear clients in the cycle from the rear pointer on (R169). -/
def rearCycle : RearTurn → List Client
  | .rearL => [.rearL, .twin, .rearR]
  | .twin => [.twin, .rearR, .rearL]
  | .rearR => [.rearR, .rearL, .twin]

/-- The clients in the order of the classes at a grant (R167, R168). -/
def grantOrder (s : State) : List Client :=
  (if 4 ≤ writerLines s.capture then [.storeWriter] else []) ++ [.audio, .front, .storeWriter] ++
  rearCycle s.arbiter.rearTurn ++ [.poller]

/-- The request the next grant takes. -/
def nextGrant (s : State) : Option Request :=
  (grantOrder s).findSome? fun c => (waitingRequest s c).bind fun r => if eligible s r then some r else none

/-- The path is free: no request is on it, or only a read, whose sending nothing waits for (R166). -/
def State.pathFree (s : State) : Bool :=
  match s.arbiter.path with
  | none => true
  | some i => i.request.isRead

/-- The rear pointer after a grant (R169). -/
def turnAfter (c : Client) (t : RearTurn) : RearTurn :=
  match c with
  | .rearL => .twin
  | .twin => .rearR
  | .rearR => .rearL
  | .front => t
  | .storeWriter => t
  | .audio => t
  | .poller => t

/-- The first fetch of a plan has been presented for n bytes of a row. -/
def advancePlan (length n : Nat) : List RowFetch → List RowFetch
  | [] => []
  | r :: rest => if length ≤ r.offset + n then rest else { r with offset := r.offset + n } :: rest

/-- The composer's plan goes on after a grant. -/
def advanceFetch (d : Display) (n : Nat) (s : State) : State :=
  s.onComposer d fun c =>
    match c.frame with
    | none => c
    | some f =>
      let length := match f.plan with
        | [] => 0
        | r :: _ => (((f.layers[r.layer]?).bind fun l => l.source.pixels).map (·.rowBytes)).getD 0
      { c with frame := some { f with plan := advancePlan length n f.plan } }

/-- The client's next request takes the place of the one granted. -/
def takeGranted (r : Request) (s : State) : State :=
  match r.work with
  | .store frame row bytes => issueBurst frame row bytes.length s
  | .status _ _ => s.onPoller fun p => { p with order := p.order.tail }
  | .read _ n =>
    match r.client with
    | .front => advanceFetch .front n s
    | .rearL => advanceFetch .rearL n s
    | .rearR => advanceFetch .rearR n s
    | .twin => { s with twin := { s.twin with plan := advancePlan s.twin.pixels.rowBytes n s.twin.plan } }
    | .storeWriter => s
    | .audio => { s with audio := { s.audio with queue := s.audio.queue.tail } }
    | .poller => s.onPoller fun p => { p with order := p.order.tail }

/-- A request is issued to the link port; a read is outstanding from then on (R166). -/
def issue (r : Request) (s : State) : State :=
  s.onArbiter fun a =>
    let i : Issued := ⟨a.nextTag, r, true, 0⟩
    { a with
      path := some i
      outstanding := if r.isRead then a.outstanding ++ [i] else a.outstanding
      rearTurn := turnAfter r.client a.rearTurn
      nextTag := a.nextTag + 1 }

/-- Whether a pending message is sent before any waiting request: it is while the link is up (R192, log 38). -/
def State.messageFirst (s : State) : Bool := s.notice.message && Config.linkUp s.audio.now s.arbiter.nextTag

/-- A grant (R167): nothing happens while the path is not free, a pending message goes first, or no eligible request
waits. -/
def grant (s : State) : State :=
  if s.pathFree && !s.messageFirst then
    match nextGrant s with
    | none => s
    | some r => issue r (takeGranted r s)
  else s

/-! ## Completions (R166, R171) -/

/-- The outstanding read with a tag. -/
def State.outstandingAt (s : State) (tag : Nat) : Option Issued := s.arbiter.outstanding.find? fun i => i.tag == tag

/-- A request leaves the arbiter: the path if it is there, and the outstanding reads. -/
def retire (tag : Nat) (s : State) : State :=
  s.onArbiter fun a =>
    { a with
      path := if a.path.map (·.tag) = some tag then none else a.path
      outstanding := a.outstanding.filter fun i => i.tag != tag }

/-- A request completed without fault: its client's consecutive fault count becomes 0 (R173). -/
def completeOk (c : Client) (s : State) : State :=
  s.onArbiter fun a => { a with consecutive := a.consecutive.update c fun _ => 0 }

/-- The two halves of the tray, once both have been read (R122). -/
def finishTray (s : State) : State :=
  match s.poller.trayLow, s.poller.trayHigh with
  | some l, some h =>
    let faulted := s.poller.trayFault
    let s := s.onPoller fun p => { p with trayLow := none, trayHigh := none }
    if faulted then s else handTray (l ++ h) s
  | some _, none => s
  | none, _ => s

/-- A half of the tray has been read; a half that faulted counts as read with nothing (R122). -/
def trayHalf (upper : Bool) (bytes : List Byte) (fault : Bool) (s : State) : State :=
  finishTray (s.onPoller fun p =>
    { p with
      trayLow := if upper then p.trayLow else some bytes
      trayHigh := if upper then some bytes else p.trayHigh
      trayFault := p.trayFault || fault })

/-- Clip samples of a completed read, for the block being output only (R42, R135). -/
def clipDone (serial take repetition position : Nat) (bytes : List Byte) (s : State) : State :=
  if s.audio.serial = serial then
    s.onChime fun c => { c with clipGot := c.clipGot ++
      (List.range (bytes.length / 2)).map fun i => ⟨take, repetition, position + i, halfAt bytes (2 * i)⟩ }
  else s

/-- The poller's last-read copies. -/
def onCopies (f : PollCopies → PollCopies) (s : State) : State := s.onPoller fun p => { p with copies := f p.copies }

/-- A read that completed without fault is handed to its owner (R186 and the chapters). -/
def handRead (what : ReadOf) (bytes : List Byte) (s : State) : State :=
  match what with
  | .header => headerDone bytes s
  | .select d => handSelect d bytes (onCopies (fun c => { c with select := c.select.update d fun _ => some bytes }) s)
  | .bankCount d n => bankCountDone d n bytes s
  | .bankEntries d n o => bankEntriesDone d n o bytes s
  | .timing d => timingDone d bytes s
  | .askBoard upper => handAskBoard upper bytes s
  | .postedCounts k =>
    handPostedCounts k bytes (onCopies (fun c =>
      match k with
      | .frames => { c with frameCounts := some bytes }
      | .sound => { c with soundCounts := some bytes }) s)
  | .card st k n i => cardDone st k n i bytes s
  | .cameraRecord n => onLoad n (fun l => { l with camera := some bytes }) s
  | .geometryRecord n => onLoad n (fun l => { l with geometry := some bytes }) s
  | .script n part => scriptPartDone n part bytes s
  | .mixerSet => mixerSetDone bytes s
  | .routing => handleRouting (routingOf bytes) true (onCopies (fun c => { c with routing := some bytes }) s)
  | .vehicle => takeVehicle bytes (onCopies (fun c => { c with vehicle := some bytes }) s)
  | .tray upper => trayHalf upper bytes false s
  | .layerRow d n l r o => layerRowDone d n l r o bytes s
  | .twinRow n r o => onTwinRow n r (putChunk r o bytes) s
  | .soundSamples st n p => samplesDone st n p bytes s
  | .clipSamples n t r p => clipDone n t r p bytes s

/-- A read that ended with a fault, at its owner (R172). -/
def handReadFault (what : ReadOf) (s : State) : State :=
  match what with
  | .header => headerFault s
  | .select _ => s
  | .bankCount d n => bankReadFault d n s
  | .bankEntries d n _ => bankReadFault d n s
  | .timing d => giveUpAsk (displaySlot d) s
  | .askBoard _ => s
  | .postedCounts _ => s
  | .card st k _ _ => cardFault st k s
  | .cameraRecord n => loadFaulted n s
  | .geometryRecord n => loadFaulted n s
  | .script n _ => loadFaulted n s
  | .mixerSet => giveUpAsk mixerSlot s
  | .routing => s
  | .vehicle => s
  | .tray upper => trayHalf upper [] true s
  | .layerRow d n l r _ => layerRowFault d n l r s
  | .twinRow n r _ => onTwinRow n r (putFault r) s
  | .soundSamples _ _ _ => s
  | .clipSamples _ _ _ _ => s

/-! ## Faults (R171 to R174) -/

/-- The arbiter's part in a fault (R173): counts, the last fault, LINK_FAULT. -/
def countFault (i : Issued) (k : FaultKind) (s : State) : State :=
  let c := i.request.client
  let attached := s.port.attached
  setFlag .linkFault (s.onArbiter fun a =>
    { a with
      faults := a.faults.update c (· + 1)
      total := a.total + 1
      lastFault := some ⟨c, k, i.request.addr⟩
      consecutive := if attached then a.consecutive.update c (· + 1) else a.consecutive })

/-- A faulted status write is made again at the end of the order, unless a later write of its field waits (R172) or a
DETACH has ended the page it was for (R183). -/
def remakeStatus (r : Request) (offset : Nat) (s : State) : State :=
  if s.port.attached && !s.poller.order.any (isStatusWriteOf offset) then
    s.onPoller fun p => { p with order := p.order ++ [r] }
  else s

/-- The fault is handed to the client (R172). -/
def handFault (i : Issued) (s : State) : State :=
  match i.request.work with
  | .read what _ => if i.live then handReadFault what s else s
  | .status offset _ => if i.live then remakeStatus i.request offset s else s
  | .store frame _ _ => burstFault frame s

/-- A request ends with a fault (R171 to R174). -/
def requestFault (i : Issued) (k : FaultKind) (s : State) : State :=
  let c := i.request.client
  let s := handFault i (countFault i k (retire i.tag s))
  if s.port.attached && decide (16 ≤ s.arbiter.consecutive.get c) then selfDetach c s else s

/-- What a completion of a read of n bytes is: its data, or the kind of fault (R171). -/
def readOutcome (n : Nat) : Completion → Except FaultKind (List Byte)
  | .data bytes => if bytes.length = n then .ok bytes else .error .length
  | .error => .error .error
  | .corrupted => .error .corrupted

/-- A read completes without fault; what was left to run by a DETACH is discarded (R174). -/
def readOk (i : Issued) (what : ReadOf) (bytes : List Byte) (s : State) : State :=
  let s := completeOk i.request.client (retire i.tag s)
  if i.live then handRead what bytes s else s

/-- A completion of an outstanding read of a given kind; any other is discarded (R171). -/
def completeRead (kind : ReadOf → Bool) (tag : Nat) (c : Completion) (s : State) : State :=
  match s.outstandingAt tag with
  | none => s
  | some i =>
    match i.request.work with
    | .status _ _ => s
    | .store _ _ _ => s
    | .read what n =>
      if kind what then
        match readOutcome n c with
        | .ok bytes => readOk i what bytes s
        | .error k => requestFault i k s
      else s

/-! ### The kinds of reads by the command that completes them -/

def ReadOf.isHeader : ReadOf → Bool := fun r => r == .header

def ReadOf.isSelect : ReadOf → Bool
  | .select _ => true
  | _ => false

def ReadOf.isBank : ReadOf → Bool
  | .bankCount _ _ => true
  | .bankEntries _ _ _ => true
  | _ => false

def ReadOf.isTiming : ReadOf → Bool
  | .timing _ => true
  | _ => false

def ReadOf.isFetch : ReadOf → Bool
  | .layerRow _ _ _ _ _ => true
  | .twinRow _ _ _ => true
  | _ => false

def ReadOf.isAskBoard : ReadOf → Bool
  | .askBoard _ => true
  | _ => false

def ReadOf.isPostedCounts : ReadOf → Bool
  | .postedCounts _ => true
  | _ => false

def ReadOf.isCard : ReadOf → Bool
  | .card _ _ _ _ => true
  | _ => false

def ReadOf.isAudio : ReadOf → Bool
  | .soundSamples _ _ _ => true
  | .clipSamples _ _ _ _ => true
  | _ => false

def ReadOf.isLoad : ReadOf → Bool
  | .cameraRecord _ => true
  | .geometryRecord _ => true
  | .script _ _ => true
  | _ => false

def ReadOf.isVehicle : ReadOf → Bool := fun r => r == .vehicle
def ReadOf.isRouting : ReadOf → Bool := fun r => r == .routing
def ReadOf.isMixerSet : ReadOf → Bool := fun r => r == .mixerSet

def ReadOf.isTray : ReadOf → Bool
  | .tray _ => true
  | _ => false

/-! ## Writes, timeouts, the message -/

/-- The bytes of a write have reached host memory. -/
def writeHost (addr : Addr) (bytes : List Byte) (s : State) : State := { s with memory := s.memory.write addr bytes }

/-- The store burst on the path has been sent (R69, R166). -/
def storeSent (s : State) : State :=
  match s.arbiter.path with
  | none => s
  | some i =>
    match i.request.work with
    | .read _ _ => s
    | .status _ _ => s
    | .store frame row bytes =>
      burstSent frame row (writeHost i.request.addr bytes (completeOk .storeWriter (retire i.tag s)))

/-- The status write on the path has been sent (R166, R173). -/
def statusSent (s : State) : State :=
  match s.arbiter.path with
  | none => s
  | some i =>
    match i.request.work with
    | .read _ _ => s
    | .store _ _ _ => s
    | .status _ bytes => writeHost i.request.addr bytes (completeOk .poller (retire i.tag s))

/-- The request with a tag: an outstanding read or the request on the path. -/
def State.issuedAt (s : State) (tag : Nat) : Option Issued :=
  match s.outstandingAt tag with
  | some i => some i
  | none =>
    match s.arbiter.path with
    | none => none
    | some i => if i.tag = tag then some i else none

/-- A request with a tag ends with a fault. -/
def faultAt (tag : Nat) (k : FaultKind) (s : State) : State :=
  match s.issuedAt tag with
  | none => s
  | some i => requestFault i k s

/-- An outstanding read has had no completion for 8 ms (R171). -/
def timeoutAt (tag : Nat) (s : State) : State :=
  match s.outstandingAt tag with
  | none => s
  | some i => requestFault i .timeout s

/-- The request on the path could not be sent for 8 ms (R171). -/
def sendTimeoutOf (s : State) : State :=
  match s.arbiter.path with
  | none => s
  | some i => requestFault i .notSent s

/-- A pending interrupt message is sent when the path is free (R192). -/
def sendMessage (s : State) : State :=
  if s.notice.message && s.pathFree then
    (s.onArbiter fun a => { a with path := none }).onNotice fun n => { n with message := false }
  else s

end Sys2Proof.Machine
end

