-- ==== Sys2Proof/Machine/Clock.lean ====
section
/-! DEFINITION. The 48 kHz sample clock: the audio block end (R37, R186) and what one sample period does when no command
waits (log 3): the zone outputs, the voices, the timers, the ages of requests, and the block end after 256 samples. -/

namespace Sys2Proof.Machine

/-! ## The audio block end -/

/-- Samples of a block cut short that had not come count as a miss (R42, log 3). -/
def Film.missRest (position : Nat) (f : Film) : Film :=
  if f.blockMissed = false ∧ (f.block.drop position).any (· == .want) then
    { f with blockMissed := true, misses := f.misses + 1 }
  else f

/-- The block count advances, and the next block begins (R186). DESIGN CHOICE: the sample reads of the block that ends
which are still to be presented are withdrawn (R42, log 47). -/
def beginBlock (s : State) : State :=
  let s := { s with film := s.film.map (Film.missRest s.audio.position) }
  let s := s.onPort fun p => { p with blockCount := p.blockCount + 1 }
  let s := s.onChime fun c => { c with clipMissed := false, clipGot := [], clipAsked := [] }
  { s with audio := { s.audio with position := 0, serial := s.audio.serial + 1, queue := [] } }

/-- The tray is read in two requests unless its last read has not ended (R122, R186). -/
def pollTray (s : State) : State :=
  if s.reading (.tray false) || s.reading (.tray true) then s
  else
    let s := s.onPoller fun p => { p with trayLow := none, trayHigh := none, trayFault := false }
    makeRead (.tray true) (s.areaAddr 0x4100) 256 (makeRead (.tray false) (s.areaAddr 0x4000) 256 s)

/-- The poller's reads at an audio block end, in the order of R186, with the sound card reads that retry there, behind the
posted counts and ahead of the two records (R34, log 64). -/
def pollBlockEnd (s : State) : State :=
  if s.port.attached then
    let s := pollTray (pollAskBoard true (pollAskBoard false s))
    let s := retryCards .sound (pollRead (.postedCounts .sound) 0x2848 8 s)
    pollRead .vehicle 0x0500 16 (pollRead .routing 0x0400 16 s)
  else s

/-- The voices at the block boundary; the clip samples of the new block follow the streams' in the fetcher's queue
(R42, R130 to R133, R138). -/
def chimeBoundary (s : State) : State := presentClips (proximityBoundary (voiceBoundary s))

/-- An audio block end. DESIGN CHOICE: the mixer reports the block just ended before it applies the new block's inputs
(R121, log 48). The slots busy now are noted before a MIXER_SET is answered, since slot 6 is read again only from the
first block end after its answer (R117). -/
def blockEnd (s : State) : State :=
  let s := beginBlock s
  let s := if s.port.attached then reportMixer s else s
  let s := streamBlockEnd .f1 (streamBlockEnd .f0 s)
  chimeBoundary (applyInputs (answerMixerSet (pollBlockEnd s)))

/-! ## Timers

In each sample period every running timer is one period further on; then those that have come to their end expire. A timer
that starts in a period, at an expiry or otherwise, runs its whole time from the next one on. -/

/-- A timer one sample period on. -/
def countDown (t : Option Nat) : Option Nat := t.map fun n => n - 1

/-- Every running timer one sample period on. -/
def runTimers (s : State) : State :=
  { s with
    capture := { s.capture with
      settleTimer := countDown s.capture.settleTimer
      stepTimer := countDown s.capture.stepTimer
      lossTimer := countDown s.capture.lossTimer }
    guide := { s.guide with timer := countDown s.guide.timer }
    reverse := { s.reverse with
      debounce := countDown s.reverse.debounce
      deadline := countDown s.reverse.deadline
      lingerTimer := countDown s.reverse.lingerTimer } }

/-- The debounce timer expires (R144); the camera hold follows the view. -/
def debounceExpires (s : State) : State := withNeed takeLevel s

/-- The linger timer expires (R152); the camera hold follows the view. -/
def lingerExpires (s : State) : State := withNeed endLinger s

/-- The expiries of the capture unit's timers (R56, R58, R59). -/
def captureExpiries (s : State) : State :=
  let s := if s.capture.settleTimer = some 0 then settle s else s
  let s := if s.capture.stepTimer = some 0 then endWait s else s
  if s.capture.lossTimer = some 0 then expireLoss s else s

/-- The expiries of the timers of the guide line engine and the reverse view controller (R82, R144, R148, R152). -/
def viewExpiries (s : State) : State :=
  let s := if s.guide.timer = some 0 then expireFreshness s else s
  let s := if s.reverse.debounce = some 0 then debounceExpires s else s
  let s := if s.reverse.deadline = some 0 then expireDeadline s else s
  if s.reverse.lingerTimer = some 0 then lingerExpires s else s

/-! ## Ages of requests (R171) -/

def Issued.older (i : Issued) : Issued := { i with age := i.age + 1 }

/-- 8 ms, in sample periods. -/
def requestLimit : Nat := 384

/-- Every issued request is one sample period older; those of 8 ms end with a fault. DESIGN CHOICE: a read that has had no
completion for 8 ms ends with TIMEOUT, also one still on the path, which the link may not have sent (R171, log 49). -/
def ageRequests (s : State) : State :=
  let s := s.onArbiter fun a =>
    { a with path := a.path.map Issued.older, outstanding := a.outstanding.map Issued.older }
  let old := (s.arbiter.outstanding.filter fun i => decide (requestLimit ≤ i.age)).map (·.tag)
  let s := old.foldl (fun s t => timeoutAt t s) s
  match s.arbiter.path with
  | none => s
  | some i => if i.request.isRead = false ∧ requestLimit ≤ i.age then sendTimeoutOf s else s

/-! ## One sample period -/

/-- The sample at a place of the block being output, in every zone (R42, R102, R108, R109, R115, R116). -/
def outputSample (n : Nat) (s : State) : State :=
  let samples : PerStream Stereo := ⟨s.film.f0.sampleAt n, s.film.f1.sampleAt n⟩
  let s := { s with film := s.film.map (Film.outputAt n) }
  mixSample samples (chimeContributions s) s

/-- What the part does in one sample period. -/
def tick (s : State) : State :=
  let n := s.audio.position
  let s := { s with audio := { s.audio with now := s.audio.now + 1, position := n + 1 } }
  let s := ageRequests (viewExpiries (captureExpiries (runTimers (advanceChimes (outputSample n s)))))
  if 256 ≤ s.audio.position then blockEnd s else s

end Sys2Proof.Machine
end

