-- ==== Sys2Proof/Machine/Camera.lean ====
section
/-! DEFINITION. The meanings of the commands of the camera capture unit and the guide line engine (chapters 3, 4). -/

namespace Sys2Proof.Machine

/-- FRAME_START_CODE (R62). -/
def execFrameStartCode (number : Byte) (s : State) : Host.Outcome State Fault Refusal := commit s (frameCode number s)

/-- LINE_PACKET (R54). -/
def execLinePacket (line : BitVec 12) (payload : List Byte) (check : Half) (s : State) :
    Host.Outcome State Fault Refusal :=
  commit s (linePacketElement line.toNat payload check s)

/-- FRAME_END_CODE (R55). -/
def execFrameEndCode (s : State) : Host.Outcome State Fault Refusal := commit s (frameEndElement s)

/-- UNRECOGNISED_ELEMENT (R52): it is discarded. -/
def execUnrecognisedElement (s : State) : Host.Outcome State Fault Refusal := .next s

/-- LOSS_TIMER_EXPIRY (R56). -/
def execLossTimerExpiry (s : State) : Host.Outcome State Fault Refusal := commit s (expireLoss s)

/-- SETTLE_EXPIRY (R58). -/
def execSettleExpiry (s : State) : Host.Outcome State Fault Refusal := commit s (settle s)

/-- WAIT_STEP_EXPIRY (R59). -/
def execWaitStepExpiry (s : State) : Host.Outcome State Fault Refusal := commit s (endWait s)

/-- How a transaction that the camera ended has failed (R60). -/
def i2cFailure : I2cEnd → Option ScriptFault
  | .acknowledged => none
  | .nackAddress => some .nackAddress
  | .nackData => some .nackData

/-- I2C_WRITE_DONE (R60). -/
def execI2cWriteDone (result : I2cEnd) (s : State) : Host.Outcome State Fault Refusal :=
  commit s (endWrite (i2cFailure result) s)

/-- BUS_TIMEOUT (R60). -/
def execBusTimeout (s : State) : Host.Outcome State Fault Refusal := commit s (endWrite (some .busTimeout) s)

/-- CAMERA_ON (R74). -/
def execCameraOn (sequence : Word) (params : List Word) (s : State) : Host.Outcome State Fault Refusal :=
  commit s (handAsk cameraSlot ⟨sequence, 0x11, params⟩ s)

/-- CAMERA_OFF (R74). -/
def execCameraOff (sequence : Word) (params : List Word) (s : State) : Host.Outcome State Fault Refusal :=
  commit s (handAsk cameraSlot ⟨sequence, 0x12, params⟩ s)

/-- CAMERA_LOAD (R75). -/
def execCameraLoad (sequence : Word) (params : List Word) (s : State) : Host.Outcome State Fault Refusal :=
  commit s (handAsk cameraSlot ⟨sequence, 0x10, params⟩ s)

/-- CAMERA_LOAD_READ_DONE (R75). -/
def execCameraLoadReadDone (tag : Nat) (completion : Completion) (s : State) : Host.Outcome State Fault Refusal :=
  commit s (completeRead ReadOf.isLoad tag completion s)

/-- STORE_WRITE_DONE (R69). -/
def execStoreWriteDone (s : State) : Host.Outcome State Fault Refusal := commit s (storeSent s)

/-- VEHICLE_RECORD_READ_DONE (R81). -/
def execVehicleRecordReadDone (tag : Nat) (completion : Completion) (s : State) : Host.Outcome State Fault Refusal :=
  commit s (completeRead ReadOf.isVehicle tag completion s)

/-- FRESHNESS_TIMER_EXPIRY (R82). -/
def execFreshnessTimerExpiry (s : State) : Host.Outcome State Fault Refusal := commit s (expireFreshness s)

/-- GUIDE_COMPUTATION_DONE (R87). -/
def execGuideComputationDone (s : State) : Host.Outcome State Fault Refusal := commit s (completeComputation s)

end Sys2Proof.Machine
end

