-- ==== Sys2Proof/Machine/Control.lean ====
section
/-! DEFINITION. The meanings of the commands of the register window, the notice unit and the resets (chapters 9, 10). -/

namespace Sys2Proof.Machine

/-- COLD_START (R176, R185). -/
def execColdStart (s : State) : Host.Outcome State Fault Refusal := commit s (coldStartCommand s)

/-- LINK_RESET (R185). -/
def execLinkReset (s : State) : Host.Outcome State Fault Refusal := commit s (linkResetCommand s)

/-- ATTACH (R178). -/
def execAttach (s : State) : Host.Outcome State Fault Refusal := commit s (startAttach s)

/-- DETACH (R183). -/
def execDetach (s : State) : Host.Outcome State Fault Refusal := commit s (detachCommand s)

/-- QUIET (R184): while QUIET nothing; else every count becomes 0 and is written, and what the blocks then do is written
behind that (R195). -/
def execQuiet (s : State) : Host.Outcome State Fault Refusal :=
  if s.port.quiet then .next s
  else
    let zeroed := clearCounts s
    commit zeroed (quietBlocks zeroed)

/-- WAKE (R184). -/
def execWake (s : State) : Host.Outcome State Fault Refusal := commit s (wakeCommand s)

/-- NO_COMMAND (R176): nothing changes. A value that holds a named command is another command. -/
def execNoCommand (value : Word) (s : State) : Host.Outcome State Fault Refusal :=
  if isNoCommand value then .next s else .fault .illFormed

/-- AREA_BASE_WRITE (R177). -/
def execAreaBaseWrite (half : AreaHalf) (value : Word) (s : State) : Host.Outcome State Fault Refusal :=
  commit s (s.onPort fun p => p.writeBase half value)

/-- CAUSE_WRITE (R190). -/
def execCauseWrite (value : Word) (s : State) : Host.Outcome State Fault Refusal :=
  commit s (s.onNotice (clearFlags value))

/-- MASK_WRITE (R191). -/
def execMaskWrite (value : Word) (s : State) : Host.Outcome State Fault Refusal :=
  commit s (s.onNotice (writeMask value))

/-- REGISTER_WRITE_IGNORED (R176, R201): the write is discarded. An offset of a register that takes writes is another
command. -/
def execRegisterWriteIgnored (offset : Nat) (_value : Word) (s : State) : Host.Outcome State Fault Refusal :=
  if isIgnoredOffset offset then .next s else .fault .illFormed

/-- HEADER_READ_DONE (R179). -/
def execHeaderReadDone (tag : Nat) (completion : Completion) (s : State) : Host.Outcome State Fault Refusal :=
  commit s (completeRead ReadOf.isHeader tag completion s)

/-- MESSAGE_SEND (R192). -/
def execMessageSend (s : State) : Host.Outcome State Fault Refusal := commit s (sendMessage s)

/-- ASK_BOARD_READ_DONE (R187). -/
def execAskBoardReadDone (tag : Nat) (completion : Completion) (s : State) : Host.Outcome State Fault Refusal :=
  commit s (completeRead ReadOf.isAskBoard tag completion s)

/-- SPARE_ASK (R187). A slot with an owner has its own asks. -/
def execSpareAsk (slot : Nat) (sequence code : Word) (params : List Word) (s : State) :
    Host.Outcome State Fault Refusal :=
  if isSpareSlot slot then commit s (handAsk slot ⟨sequence, code, params⟩ s) else .fault .illFormed

end Sys2Proof.Machine
end

