-- ==== Sys2Proof/Machine/Gear.lean ====
section
/-! DEFINITION. The meanings of the commands of the reverse view controller and of DIRECT mode (chapter 7). -/

namespace Sys2Proof.Machine

/-- REVERSE_IN_CHANGE (R144). -/
def execReverseInChange (engaged : Bool) (s : State) : Host.Outcome State Fault Refusal :=
  commit s (rawChange engaged s)

/-- DEBOUNCE_EXPIRY (R144). -/
def execDebounceExpiry (s : State) : Host.Outcome State Fault Refusal := commit s (debounceExpires s)

/-- DEADLINE_EXPIRY (R148). -/
def execDeadlineExpiry (s : State) : Host.Outcome State Fault Refusal := commit s (expireDeadline s)

/-- LINGER_EXPIRY (R152). -/
def execLingerExpiry (s : State) : Host.Outcome State Fault Refusal := commit s (lingerExpires s)

/-- DIRECT_FREE_RUN_START (R159). -/
def execDirectFreeRunStart (s : State) : Host.Outcome State Fault Refusal := commit s (freeRunStart s)

/-- DIRECT_LINE_START (R160). -/
def execDirectLineStart (s : State) : Host.Outcome State Fault Refusal := commit s (startDirectLine s)

end Sys2Proof.Machine
end

