-- ==== Sys2Proof/Machine/Link.lean ====
section
/-! DEFINITION. The meanings of the commands of the memory arbiter (chapter 8). -/

namespace Sys2Proof.Machine

/-- REQUEST_GRANT (R167). -/
def execRequestGrant (s : State) : Host.Outcome State Fault Refusal := commit s (grant s)

/-- LINK_REQUEST_FAULT (R173). -/
def execLinkRequestFault (tag : Nat) (kind : FaultKind) (s : State) : Host.Outcome State Fault Refusal :=
  commit s (faultAt tag kind s)

/-- READ_TIMEOUT (R171). -/
def execReadTimeout (tag : Nat) (s : State) : Host.Outcome State Fault Refusal := commit s (timeoutAt tag s)

/-- SEND_TIMEOUT (R171). -/
def execSendTimeout (s : State) : Host.Outcome State Fault Refusal := commit s (sendTimeoutOf s)

/-- LATE_COMPLETION_DISCARDED (R171): a completion whose read has ended with a fault changes nothing. -/
def execLateCompletionDiscarded (_tag : Nat) (s : State) : Host.Outcome State Fault Refusal := .next s

/-- STATUS_WRITE_COMPLETE (R173). -/
def execStatusWriteComplete (s : State) : Host.Outcome State Fault Refusal := commit s (statusSent s)

end Sys2Proof.Machine
end

