-- ==== Sys2Proof/Machine/Screens.lean ====
section
/-! DEFINITION. The meanings of the commands of the three composers (chapter 1). -/

namespace Sys2Proof.Machine

/-- FRAME_START (R1). -/
def execFrameStart (display : Display) (s : State) : Host.Outcome State Fault Refusal :=
  commit s (frameStartOf display s)

/-- FRAME_END (R21). -/
def execFrameEnd (display : Display) (s : State) : Host.Outcome State Fault Refusal :=
  commit s (frameEndOf display s)

/-- SELECT_WORD_READ_DONE (R7). -/
def execSelectWordReadDone (tag : Nat) (completion : Completion) (s : State) : Host.Outcome State Fault Refusal :=
  commit s (completeRead ReadOf.isSelect tag completion s)

/-- BANK_READ_DONE (R8). -/
def execBankReadDone (tag : Nat) (completion : Completion) (s : State) : Host.Outcome State Fault Refusal :=
  commit s (completeRead ReadOf.isBank tag completion s)

/-- DISPLAY_TIMING (R3). -/
def execDisplayTiming (display : Display) (sequence : Word) (params : List Word) (s : State) :
    Host.Outcome State Fault Refusal :=
  commit s (handAsk (displaySlot display) ⟨sequence, 0x20, params⟩ s)

/-- TIMING_RECORD_READ_DONE (R3). -/
def execTimingRecordReadDone (tag : Nat) (completion : Completion) (s : State) : Host.Outcome State Fault Refusal :=
  commit s (completeRead ReadOf.isTiming tag completion s)

/-- DISPLAY_BLANK (R6). -/
def execDisplayBlank (display : Display) (sequence : Word) (params : List Word) (s : State) :
    Host.Outcome State Fault Refusal :=
  commit s (handAsk (displaySlot display) ⟨sequence, 0x21, params⟩ s)

/-- DISPLAY_SHOW (R6). -/
def execDisplayShow (display : Display) (sequence : Word) (params : List Word) (s : State) :
    Host.Outcome State Fault Refusal :=
  commit s (handAsk (displaySlot display) ⟨sequence, 0x22, params⟩ s)

/-- LINE_OUTPUT (R20). -/
def execLineOutput (display : Display) (s : State) : Host.Outcome State Fault Refusal :=
  commit s (lineOutputOf display s)

/-- COMPOSER_FETCH_DONE (R20). -/
def execComposerFetchDone (tag : Nat) (completion : Completion) (s : State) : Host.Outcome State Fault Refusal :=
  commit s (completeRead ReadOf.isFetch tag completion s)

end Sys2Proof.Machine
end

