-- ==== Sys2Proof/Machine/Sound.lean ====
section
/-! DEFINITION. The meanings of the commands of the mixer and the chime engine (chapters 5, 6). -/

namespace Sys2Proof.Machine

/-- ROUTING_RECORD_READ_DONE (R103). -/
def execRoutingRecordReadDone (tag : Nat) (completion : Completion) (s : State) : Host.Outcome State Fault Refusal :=
  commit s (completeRead ReadOf.isRouting tag completion s)

/-- HOST_CHANGE_APPLY (R108). -/
def execHostChangeApply (route : Route) (s : State) : Host.Outcome State Fault Refusal :=
  commit s (applyHostChange route s)

/-- RAMP_END (R109). -/
def execRampEnd (route : Route) (s : State) : Host.Outcome State Fault Refusal :=
  commit s (s.onRoute route RouteState.endRamp)

/-- ZONE_SATURATION (R116). -/
def execZoneSaturation (zone : Zone) (s : State) : Host.Outcome State Fault Refusal := commit s (saturate zone s)

/-- MIXER_SET (R117). -/
def execMixerSet (sequence : Word) (params : List Word) (s : State) : Host.Outcome State Fault Refusal :=
  commit s (handAsk mixerSlot ⟨sequence, 0x30, params⟩ s)

/-- MIXER_SET_READ_DONE (R117). -/
def execMixerSetReadDone (tag : Nat) (completion : Completion) (s : State) : Host.Outcome State Fault Refusal :=
  commit s (completeRead ReadOf.isMixerSet tag completion s)

/-- CHIME_TRAY_READ_DONE (R122). -/
def execChimeTrayReadDone (tag : Nat) (completion : Completion) (s : State) : Host.Outcome State Fault Refusal :=
  commit s (completeRead ReadOf.isTray tag completion s)

/-- A card of the tray taken by a command: only while ATTACHED, and only one of the eight (R122). -/
def takeTrayCard (n : Nat) (c : ChimeCard) (s : State) : State :=
  if s.port.attached && decide (n < 8) then presentClips (takeCard n c s) else s

/-- CHIME_PLAY (R124). -/
def execChimePlay (card : Nat) (fields : ChimeCard) (s : State) : Host.Outcome State Fault Refusal :=
  commit s (takeTrayCard card { fields with ask := 1 } s)

/-- A card whose ask is STOP; its other fields are not read (R125). -/
def stopFields (sequence : Word) : ChimeCard := ⟨sequence, 2, 0, 0, 0, 0, 0, 0, 0, 0, 0, 0, 0⟩

/-- CHIME_STOP (R125). -/
def execChimeStop (card : Nat) (sequence : Word) (s : State) : Host.Outcome State Fault Refusal :=
  commit s (takeTrayCard card (stopFields sequence) s)

/-- REPETITION_END (R131). DESIGN CHOICE: without a chime that sounds nothing happens (log 14). -/
def execRepetitionEnd (s : State) : Host.Outcome State Fault Refusal :=
  commit s (match s.chime.voice with
    | .idle => s
    | .sounding _ => presentClips (endRepetition s)
    | .releasing _ _ => s)

/-- RELEASE_END (R133). DESIGN CHOICE: without a chime in its release nothing happens (log 14). -/
def execReleaseEnd (s : State) : Host.Outcome State Fault Refusal :=
  commit s (match s.chime.voice with
    | .idle => s
    | .sounding _ => s
    | .releasing _ _ => presentClips (endRelease s))

/-- BEEP_END (R139). -/
def execBeepEnd (s : State) : Host.Outcome State Fault Refusal := commit s (s.onProximity Proximity.endBeep)

/-- GAP_END (R139). -/
def execGapEnd (s : State) : Host.Outcome State Fault Refusal := commit s (s.onProximity Proximity.endGap)

/-- PROXIMITY_RELEASE_END (R138). -/
def execProximityReleaseEnd (s : State) : Host.Outcome State Fault Refusal :=
  commit s (s.onProximity Proximity.endRelease)

end Sys2Proof.Machine
end

