-- ==== Sys2Proof/Machine/Streams.lean ====
section
/-! DEFINITION. The meanings of the commands of the film timing unit and the audio fetcher (chapter 2). -/

namespace Sys2Proof.Machine

/-- STREAM_PLAY (R29). -/
def execStreamPlay (stream : Stream) (sequence : Word) (params : List Word) (s : State) :
    Host.Outcome State Fault Refusal :=
  commit s (handAsk (streamSlot stream) ⟨sequence, 1, params⟩ s)

/-- STREAM_PAUSE (R32). -/
def execStreamPause (stream : Stream) (sequence : Word) (params : List Word) (s : State) :
    Host.Outcome State Fault Refusal :=
  commit s (handAsk (streamSlot stream) ⟨sequence, 2, params⟩ s)

/-- STREAM_STOP (R33). -/
def execStreamStop (stream : Stream) (sequence : Word) (params : List Word) (s : State) :
    Host.Outcome State Fault Refusal :=
  commit s (handAsk (streamSlot stream) ⟨sequence, 3, params⟩ s)

/-- POSTED_COUNT_READ_DONE (R189). -/
def execPostedCountReadDone (tag : Nat) (completion : Completion) (s : State) : Host.Outcome State Fault Refusal :=
  commit s (completeRead ReadOf.isPostedCounts tag completion s)

/-- CARD_READ_DONE (R34). -/
def execCardReadDone (tag : Nat) (completion : Completion) (s : State) : Host.Outcome State Fault Refusal :=
  commit s (completeRead ReadOf.isCard tag completion s)

/-- AUDIO_BLOCK_END (R37). -/
def execAudioBlockEnd (s : State) : Host.Outcome State Fault Refusal := commit s (blockEnd s)

/-- AUDIO_FETCH_DONE (R42). -/
def execAudioFetchDone (tag : Nat) (completion : Completion) (s : State) : Host.Outcome State Fault Refusal :=
  commit s (completeRead ReadOf.isAudio tag completion s)

end Sys2Proof.Machine
end

