-- ==== Sys2Proof/Machine/Dispatch.lean ====
section
/-! DEFINITION. The dispatch: one arm for each command, one call of its meaning. -/

namespace Sys2Proof.Machine

def exec (i : Instr) (s : State) : Host.Outcome State Fault Refusal :=
  match i with
  | .coldStart => Sys2Proof.Machine.execColdStart s
  | .linkReset => Sys2Proof.Machine.execLinkReset s
  | .attach => Sys2Proof.Machine.execAttach s
  | .detach => Sys2Proof.Machine.execDetach s
  | .quiet => Sys2Proof.Machine.execQuiet s
  | .wake => Sys2Proof.Machine.execWake s
  | .noCommand value => Sys2Proof.Machine.execNoCommand value s
  | .areaBaseWrite half value => Sys2Proof.Machine.execAreaBaseWrite half value s
  | .causeWrite value => Sys2Proof.Machine.execCauseWrite value s
  | .maskWrite value => Sys2Proof.Machine.execMaskWrite value s
  | .registerWriteIgnored offset value => Sys2Proof.Machine.execRegisterWriteIgnored offset value s
  | .headerReadDone tag completion => Sys2Proof.Machine.execHeaderReadDone tag completion s
  | .messageSend => Sys2Proof.Machine.execMessageSend s
  | .frameStart display => Sys2Proof.Machine.execFrameStart display s
  | .frameEnd display => Sys2Proof.Machine.execFrameEnd display s
  | .selectWordReadDone tag completion => Sys2Proof.Machine.execSelectWordReadDone tag completion s
  | .bankReadDone tag completion => Sys2Proof.Machine.execBankReadDone tag completion s
  | .displayTiming display sequence params => Sys2Proof.Machine.execDisplayTiming display sequence params s
  | .timingRecordReadDone tag completion => Sys2Proof.Machine.execTimingRecordReadDone tag completion s
  | .displayBlank display sequence params => Sys2Proof.Machine.execDisplayBlank display sequence params s
  | .displayShow display sequence params => Sys2Proof.Machine.execDisplayShow display sequence params s
  | .lineOutput display => Sys2Proof.Machine.execLineOutput display s
  | .composerFetchDone tag completion => Sys2Proof.Machine.execComposerFetchDone tag completion s
  | .askBoardReadDone tag completion => Sys2Proof.Machine.execAskBoardReadDone tag completion s
  | .spareAsk slot sequence code params => Sys2Proof.Machine.execSpareAsk slot sequence code params s
  | .streamPlay stream sequence params => Sys2Proof.Machine.execStreamPlay stream sequence params s
  | .streamPause stream sequence params => Sys2Proof.Machine.execStreamPause stream sequence params s
  | .streamStop stream sequence params => Sys2Proof.Machine.execStreamStop stream sequence params s
  | .postedCountReadDone tag completion => Sys2Proof.Machine.execPostedCountReadDone tag completion s
  | .cardReadDone tag completion => Sys2Proof.Machine.execCardReadDone tag completion s
  | .audioBlockEnd => Sys2Proof.Machine.execAudioBlockEnd s
  | .audioFetchDone tag completion => Sys2Proof.Machine.execAudioFetchDone tag completion s
  | .frameStartCode number => Sys2Proof.Machine.execFrameStartCode number s
  | .linePacket line payload check => Sys2Proof.Machine.execLinePacket line payload check s
  | .frameEndCode => Sys2Proof.Machine.execFrameEndCode s
  | .unrecognisedElement => Sys2Proof.Machine.execUnrecognisedElement s
  | .lossTimerExpiry => Sys2Proof.Machine.execLossTimerExpiry s
  | .settleExpiry => Sys2Proof.Machine.execSettleExpiry s
  | .waitStepExpiry => Sys2Proof.Machine.execWaitStepExpiry s
  | .i2cWriteDone result => Sys2Proof.Machine.execI2cWriteDone result s
  | .busTimeout => Sys2Proof.Machine.execBusTimeout s
  | .cameraOn sequence params => Sys2Proof.Machine.execCameraOn sequence params s
  | .cameraOff sequence params => Sys2Proof.Machine.execCameraOff sequence params s
  | .cameraLoad sequence params => Sys2Proof.Machine.execCameraLoad sequence params s
  | .cameraLoadReadDone tag completion => Sys2Proof.Machine.execCameraLoadReadDone tag completion s
  | .storeWriteDone => Sys2Proof.Machine.execStoreWriteDone s
  | .vehicleRecordReadDone tag completion => Sys2Proof.Machine.execVehicleRecordReadDone tag completion s
  | .freshnessTimerExpiry => Sys2Proof.Machine.execFreshnessTimerExpiry s
  | .guideComputationDone => Sys2Proof.Machine.execGuideComputationDone s
  | .routingRecordReadDone tag completion => Sys2Proof.Machine.execRoutingRecordReadDone tag completion s
  | .hostChangeApply route => Sys2Proof.Machine.execHostChangeApply route s
  | .rampEnd route => Sys2Proof.Machine.execRampEnd route s
  | .zoneSaturation zone => Sys2Proof.Machine.execZoneSaturation zone s
  | .mixerSet sequence params => Sys2Proof.Machine.execMixerSet sequence params s
  | .mixerSetReadDone tag completion => Sys2Proof.Machine.execMixerSetReadDone tag completion s
  | .chimeTrayReadDone tag completion => Sys2Proof.Machine.execChimeTrayReadDone tag completion s
  | .chimePlay card fields => Sys2Proof.Machine.execChimePlay card fields s
  | .chimeStop card sequence => Sys2Proof.Machine.execChimeStop card sequence s
  | .repetitionEnd => Sys2Proof.Machine.execRepetitionEnd s
  | .releaseEnd => Sys2Proof.Machine.execReleaseEnd s
  | .beepEnd => Sys2Proof.Machine.execBeepEnd s
  | .gapEnd => Sys2Proof.Machine.execGapEnd s
  | .proximityReleaseEnd => Sys2Proof.Machine.execProximityReleaseEnd s
  | .reverseInChange engaged => Sys2Proof.Machine.execReverseInChange engaged s
  | .debounceExpiry => Sys2Proof.Machine.execDebounceExpiry s
  | .deadlineExpiry => Sys2Proof.Machine.execDeadlineExpiry s
  | .lingerExpiry => Sys2Proof.Machine.execLingerExpiry s
  | .directFreeRunStart => Sys2Proof.Machine.execDirectFreeRunStart s
  | .directLineStart => Sys2Proof.Machine.execDirectLineStart s
  | .requestGrant => Sys2Proof.Machine.execRequestGrant s
  | .linkRequestFault tag kind => Sys2Proof.Machine.execLinkRequestFault tag kind s
  | .readTimeout tag => Sys2Proof.Machine.execReadTimeout tag s
  | .sendTimeout => Sys2Proof.Machine.execSendTimeout s
  | .lateCompletionDiscarded tag => Sys2Proof.Machine.execLateCompletionDiscarded tag s
  | .statusWriteComplete => Sys2Proof.Machine.execStatusWriteComplete s

end Sys2Proof.Machine
end

