-- ==== Sys2Proof/Safety.lean ====
section
/-! DEFINITION. The terms in which statements about the part are made: what a command's next state is but for the status
writes it makes, what a read that is awaited is, and the invariants of a safe run. -/

namespace Sys2Proof.Machine

/-! ## A next state, but for status writes -/

/-- The state without the requests that wait in the poller's order, and without the note of what the command in progress
writes there. -/
def State.bare (s : State) : State := { s with poller := { s.poller with order := [], written := [] } }

/-- The reads that wait in the poller's order, oldest first. -/
def State.readOrder (s : State) : List Request := s.poller.order.filter Request.isRead

/-- `t` is `u` in every field, and its poller's order holds the same reads in the same order: the two differ at most in
the status writes that wait there (R170, R195). -/
def SameButWrites (t u : State) : Prop := t.bare = u.bare ∧ t.readOrder = u.readOrder

/-- The command answers a next state, which is `u` but for the status writes the command makes. -/
def AnswersNext (c : Instr) (s u : State) : Prop := ∃ t, exec c s = .next t ∧ SameButWrites t u

/-! ## Asks that are taken -/

/-- A slot takes an ask with a sequence (R187): while ATTACHED, with no ask of the slot in reading, no MIXER_SET waiting
for its DONE (R117), neither of them at the block end that made the board read, and a sequence other than the last
taken. -/
def State.mayTake (s : State) (n : Nat) (sequence : Word) : Prop :=
  s.port.attached = true ∧ (s.slot n).reading = none ∧ sequence ≠ (s.slot n).lastTaken ∧
  (n = mixerSlot → s.poller.mixerWaits = false) ∧ n ∉ s.poller.passed

/-- Every parameter word of an ask is 0. -/
def noParams (params : List Word) : Prop := ∀ w ∈ params, w = 0

/-! ## Reads that are awaited -/

/-- The request `i` is the outstanding read with a tag, for `what` and of `n` bytes, and no DETACH has left it to be
discarded (R166, R174). -/
def State.awaits (s : State) (tag : Nat) (i : Issued) (what : ReadOf) (n : Nat) : Prop :=
  s.outstandingAt tag = some i ∧ i.request.work = .read what n ∧ i.live = true

/-- The command that completes a read, by what the read is for. -/
def ReadOf.completedBy (what : ReadOf) (tag : Nat) (c : Completion) : Instr :=
  match what with
  | .header => .headerReadDone tag c
  | .select _ => .selectWordReadDone tag c
  | .bankCount _ _ => .bankReadDone tag c
  | .bankEntries _ _ _ => .bankReadDone tag c
  | .timing _ => .timingRecordReadDone tag c
  | .askBoard _ => .askBoardReadDone tag c
  | .postedCounts _ => .postedCountReadDone tag c
  | .card _ _ _ _ => .cardReadDone tag c
  | .cameraRecord _ => .cameraLoadReadDone tag c
  | .geometryRecord _ => .cameraLoadReadDone tag c
  | .script _ _ => .cameraLoadReadDone tag c
  | .mixerSet => .mixerSetReadDone tag c
  | .routing => .routingRecordReadDone tag c
  | .vehicle => .vehicleRecordReadDone tag c
  | .tray _ => .chimeTrayReadDone tag c
  | .layerRow _ _ _ _ _ => .composerFetchDone tag c
  | .twinRow _ _ _ => .composerFetchDone tag c
  | .soundSamples _ _ _ => .audioFetchDone tag c
  | .clipSamples _ _ _ _ => .audioFetchDone tag c

/-- The arbiter's part in a read that completes without fault: it is outstanding no more, and its client's consecutive
fault count is 0 (R173). -/
def State.readEnded (s : State) (i : Issued) : State := completeOk i.request.client (retire i.tag s)

/-! ## Frame starts -/

/-- The bank latch of a display at a frame start (R9): a candidate that waits checked is the shown bank, with no bank
fault; any other candidate, and then the shown bank and the bank fault, stay. The entry-bad count takes a latched bank's
bad entries and each FILM entry that the frame shows whose card fails the limits of R13. -/
def LatchesBank (d : Display) (s t : State) : Prop :=
  let before := s.composer d
  let after := t.composer d
  let draws := after.blank = false ∧ (d = .front → t.frontView.mode = .normal)
  let failing : Nat := if draws then after.entries.countP fun e => !e.bad && filmFails t d e else 0
  match before.candidate with
  | .waiting b => after.shown = some b ∧ after.candidate = .none ∧ after.bankFault = .none ∧
      after.entryBad = before.entryBad + wordOfNat (b.entries.countP (·.bad)) + wordOfNat failing
  | c => after.shown = before.shown ∧ after.candidate = c ∧ after.bankFault = before.bankFault ∧
      after.entryBad = before.entryBad + wordOfNat failing

/-- What a stream's current card of a display is at its frame start (R43 to R46): the display gives it up when it does not
show the stream, or the stream is STOPPED or PRIMING; PLAYING selects, and may run under; PAUSED and STARVED select only
for a display without a card. -/
def Film.startFrame (f : Film) (d : Display) (shows : Bool) (lead : Nat) : Film :=
  let now := f.clock + wordOfNat lead
  let chosen := f.select d now
  if shows = false ∨ f.state = .stopped ∨ f.state = .priming then f.giveUp d
  else if f.state = .playing then
    if chosen.runsUnder d now then
      { chosen with underruns := chosen.underruns + 1, underrun := chosen.underrun.update d fun _ => true }
    else chosen
  else if f.current.get d = none then chosen else f

/-- Whether a display shows a stream in the frame that has begun (R43). -/
def State.showsFilm (t : State) (d : Display) (st : Stream) : Prop :=
  (t.composer d).blank = false ∧ (d = .front → t.frontView.mode = .normal) ∧
  ∃ e ∈ (t.composer d).entries, e.isFilmOf st = true

/-- The film timing unit at a frame start that displays share (R43 to R47, R34): of each stream the displays take their
cards in turn, then cards are released once; an underrun sets FILM_EVENT, and while ATTACHED a card whose read has
faulted may be read again. Nothing else of the stream changes but the mark of a card read on its way. -/
def CardsFollow (ds : List Display) (s t : State) : Prop :=
  ∀ st, ∃ shows : Display → Bool, (∀ d, shows d = true ↔ t.showsFilm d st) ∧
    { t.stream st with
      frameFaulted := (s.stream st).frameFaulted
      frameReading := (s.stream st).frameReading } =
      (ds.foldl (fun f d => f.startFrame d (shows d) (t.timing d).lead) (s.stream st)).release ∧
    (t.stream st).frameFaulted = ((s.stream st).frameFaulted && !s.port.attached) ∧
    ((t.stream st).underruns ≠ (s.stream st).underruns → t.notice.cause.getLsbD 1 = true)

/-- A frame that has begun in a display: at its first line, of its timing's size and at its effective level (R19), with
its fetches planned, and late in nothing yet. -/
def State.begins (t : State) (d : Display) (f : Frame) : Prop :=
  let c := t.composer d
  c.frame = some f ∧ f.blank = c.blank ∧ f.nextLine = 0 ∧ f.late = false ∧ f.lineStarted = false ∧
  f.width = (t.timing d).activeW ∧ f.height = (t.timing d).activeH ∧
  f.level = (match c.held with
    | none => c.level
    | some l => c.level.lower l) ∧
  (f.blank = true → f.layers = []) ∧ f.plan = framePlan f.level f.height f.layers

/-- The layers of a FRONT frame that has begun in REVERSE or DIRECT (R155 to R158), those with nothing of them in the
active area left out: the strip entries, FILL and PICTURE, cut to the menu strip; the camera layer over the view
rectangle, which is the notice picture, black, the newest published store or the camera frame taken direct; and over a
camera image the shown guide set and, in a POOR camera's frame, the POOR glyph. -/
def ReverseStack (t : State) (f : Frame) : Prop :=
  let r := t.capture.record
  let area : Rect := ⟨0, 0, f.width, f.height⟩
  let view : Rect := ⟨r.viewX, r.viewY, r.viewW, r.viewH⟩
  let top := max ((f.height : Int) - r.strip) ((r.viewY : Int) + r.viewH)
  let strip : Rect := (⟨0, top, f.width, ((f.height : Int) - top).toNat⟩ : Rect).clip area
  let placed (source : LayerSource) : Layer := ⟨source, 255, view, view.clip area, false, [], none, false⟩
  let stored := r.stores.bind fun st => t.capture.published.map fun p => LayerSource.store
    ⟨if p.store = 0 then st.s0 else if p.store = 1 then st.s1 else st.s2, r.width * (if r.wide then 4 else 2),
     if r.wide then .wide32 else .yuyv, 0, 0, r.width, r.height⟩
  let camera : LayerSource :=
    if t.reverse.view = .unavailable ∨ (t.reverse.view = .linger ∧ t.reverse.delivered = false) then .notice
    else if t.frontView.mode = .direct then (if f.direct = none then .black else .direct)
    else stored.getD .black
  let image := camera = .direct ∨ some camera = stored
  let drawn (e : Entry) : Option LayerSource := match e.body with
    | .fill a r g b => some (.fill ⟨a.toNat, r.toNat, g.toNat, b.toNat⟩)
    | .picture p n c sx sy sw sh => some (.picture ⟨p, n.toNat,
        if c = 0 then .argb8888 else if c = 1 then .rgb565 else .yuyv, sx.toNat, sy.toNat, sw.toNat, sh.toNat⟩)
    | _ => none
  let strips : List Layer := (drawOrder t.composers.front.entries).filterMap fun e =>
    (drawn e).map fun source => ⟨source, e.opacity, e.rect, (e.rect.clip area).clip strip, false, [], none, false⟩
  f.layers = (strips ++ [placed camera] ++
    (if image ∧ t.guide.shown ≠ none then [placed .guides] else []) ++
    (if image ∧ t.capture.poor = true then [placed .poor] else [])).filter fun l => l.clip.w != 0 && l.clip.h != 0

/-! ## The reverse view and the camera's events -/

/-- What a delivery event makes of the reverse view (R146, R148, R149): WAKING moves to SHOWING, with its deadline stopped
and the whole milliseconds since the assertion as the last show time, UNAVAILABLE moves to SHOWING, and any other state
stays; a move shows on the outputs and sets REVERSE_CHANGE. The delivery mark is `mark`: set, unless the same command
takes the camera to OFF. -/
def ViewDelivered (mark : Bool) (s t : State) : Prop :=
  let waking := s.reverse.view = .waking
  let moves := waking ∨ s.reverse.view = .unavailable
  t.reverse = { s.reverse with
    delivered := mark
    view := if moves then .showing else s.reverse.view
    deadline := if waking then none else s.reverse.deadline
    lastShow := if waking then some ((s.audio.now - s.reverse.assertedAt) / 48) else s.reverse.lastShow } ∧
  (moves → t.notice.cause.getLsbD 4 = true ∧ t.mixer.muteHanded = true ∧ t.mixer.reverseHold = true ∧
    t.chime.proximity.showing = true ∧ t.capture.hold = true)

/-- What an entry of the capture state into LOST or FAULT makes of the reverse view (R146, R148, R149, R150): the delivery
mark is clear; WAKING, with its deadline stopped, and SHOWING move to UNAVAILABLE, which is counted and asks for the chime
"camera unavailable", unless it waits or plays already; any other state stays. -/
def ViewLosesCamera (s t : State) : Prop :=
  let waking := s.reverse.view = .waking
  let moves := waking ∨ s.reverse.view = .showing
  let there := s.chime.waits .cameraUnavailable || s.chime.plays .cameraUnavailable
  t.reverse = { s.reverse with
    delivered := false
    view := if moves then .unavailable else s.reverse.view
    deadline := if waking then none else s.reverse.deadline
    unavailables := s.reverse.unavailables + (if moves then 1 else 0) } ∧
  (moves → t.notice.cause.getLsbD 4 = true ∧ t.mixer.muteHanded = true ∧ t.chime.proximity.showing = false ∧
    (t.chime.waits .cameraUnavailable || t.chime.plays .cameraUnavailable) = true ∧
    t.chime.droppedRequests = s.chime.droppedRequests + (if there then 1 else 0)) ∧
  (¬moves → t.chime = s.chime)

/-! ## DETACH -/

/-- The capture state that DETACH leaves, and whether it enters OFF (R78, R57, R63): the asked-on mark is cleared, which is
a drop of the need unless the camera hold is set; a camera in STOPPING for which no frame is left is OFF, and in
POWERING when the hold is set. `left` are the frames not abandoned. -/
def State.cameraForgotten (s : State) (left : List KeptFrame) : CaptureState :=
  let drops := s.cameraNeeded = true ∧ s.capture.hold = false
  let moved : CaptureState :=
    if drops then
      match s.capture.state with
      | .off => .off
      | .powering => .off
      | .setup => if s.capture.i2c = none then .off else .setup
      | .armed => .off
      | .capturing => if s.capture.frames = [] then .off else .stopping
      | .stopping => .stopping
      | .lost => .off
      | .fault => .off
    else s.capture.state
  if moved = .stopping ∧ left = [] then (if s.capture.hold then .powering else .off) else moved

/-- What every block forgets at DETACH and at a link reset, and what it keeps of the same (R183): the composers (R10, R26),
the streams (R49), the capture unit (R78, R64, R71), the guide line engine (R84, R88), the mixer (R119), the chime engine
(R141, R138), the reverse view (R146) and the arbiter (R175). -/
def Forgets (s t : State) : Prop :=
  let abandoned (f : KeptFrame) : Bool := s.capture.frames.any fun g => g.id == f.id && (s.storesInUse || g.toWriter)
  let left := s.capture.frames.filter fun f => !abandoned f
  let camera := s.cameraForgotten left
  let off := camera ≠ s.capture.state ∧ (camera = .off ∨ camera = .powering)
  (∀ d, let c := t.composer d
    c.waiting = none ∧ c.shown = none ∧ c.lastSelect = none ∧ c.candidate = .none ∧ c.bankFault = .none ∧
    c.timing = (s.composer d).timing ∧ c.output = (s.composer d).output ∧
    ∀ f, c.frame = some f → f.plan = [] ∧
      (∀ l ∈ f.layers, (l.source.isTwin = true ∨ ∃ st p, l.source = .film st p) → l.dropped = true) ∧
      ∀ x, d = .front → f.direct = some x → (∃ g ∈ s.capture.frames, g.id = x.frame ∧ abandoned g = true) →
        x.closed = true) ∧
  t.twin.plan = [] ∧
  (∀ st, t.stream st = { s.stream st with
    state := .stopped, clock := 0, startPts := none, waitingPlay := none, frames := [], sounds := [], headOffset := 0
    framePosted := 0, frameReleased := 0, frameCursor := 0, frameReading := false, frameFaulted := false
    soundPosted := 0, soundReleased := 0, soundCursor := 0, soundReading := false, soundFaulted := false
    intake := (s.stream st).intake + 1, current := ⟨none, none, none⟩, underrun := ⟨false, false, false⟩
    block := [] }) ∧
  (t.capture.askedOn = false ∧ t.capture.load = none ∧ t.capture.state = camera ∧ t.capture.published = none ∧
    t.capture.frontReading = none ∧ t.capture.record = s.capture.record ∧
    t.capture.geometry = s.capture.geometry ∧ t.capture.script = s.capture.script ∧
    (off → t.capture.settleTimer = (if camera = .powering then some 2400 else none) ∧ t.capture.stepTimer = none ∧
      t.capture.lossTimer = none ∧ t.capture.i2c = none ∧ t.capture.openFrame = .none ∧
      t.capture.history = List.replicate 8 .empty ∧ t.capture.poor = false ∧ t.reverse.delivered = false) ∧
    (¬off → t.capture.frames = left ∧ t.capture.history = s.capture.history ∧ t.capture.poor = s.capture.poor ∧
      t.reverse.delivered = s.reverse.delivered)) ∧
  t.guide = { s.guide with
    sample := none, reference := none, freshness := .static, timer := none, shown := none, inFlight := none
    abandoned := s.guide.abandoned + (if s.guide.inFlight = none then 0 else 1) } ∧
  (t.mixer.taken = Routing.reset ∧ t.mixer.lastCopy = none ∧ t.mixer.routingFault = 0 ∧
    t.mixer.duckApplied = s.mixer.duckApplied ∧ t.mixer.muteApplied = s.mixer.muteApplied ∧
    t.mixer.muteHanded = s.mixer.muteHanded ∧ t.mixer.reverseHold = s.mixer.reverseHold ∧
    ∀ r, t.route r = { s.route r with
      level := none, duck := 36, pending := none, target := 0
      ramp := if (s.route r).target = 0 then (s.route r).ramp else some ⟨(s.route r).gain, 0, 0⟩ }) ∧
  (let p := s.chime.proximity
   let q := { p with active := false, fresh := false, nearest := none }
   let internal (src : ChimeSource) : Bool := src == .cameraUnavailable || src == .sensingUnavailable
   t.chime = { s.chime with
    waiting := s.chime.waiting.filter fun x => internal x.source
    voice := s.chime.voice.update fun v =>
      if internal v.chime.source then v else { v with owned := false, mark := .forgotten }
    cards := s.chime.cards.map fun k => { k with lastTaken := none, state := .none }
    proximity :=
      if p.active then
        match p.state with
        | .beep => { q with state := .releasing, after := .inactive, position := 0 }
        | .releasing => { q with after := .inactive }
        | .gap => { q with state := .inactive }
        | .starting => { q with state := .inactive }
        | .inactive => q
      else q }) ∧
  t.reverse = { s.reverse with delivered := t.reverse.delivered } ∧
  ∀ c, t.arbiter.consecutive.get c = 0

/-! ## Records -/

/-- The bytes that spell a step of a setup script which passes its checks (11.7, R77): a WRITE is its kind 1, the device
address, the register address low byte first, the count and as many data bytes; a WAIT its kind 2, a byte that is not
read, and the duration low byte first. -/
def ScriptStep.spelled (x : ScriptStep) (b : List Byte) : Prop :=
  match x with
  | .write device register data =>
    b = [1, device, register.extractLsb' 0 8, register.extractLsb' 8 8, BitVec.ofNat 8 data.length] ++ data ∧
    device.toNat ≤ 127 ∧ 1 ≤ data.length ∧ data.length ≤ 16
  | .wait ms =>
    1 ≤ ms ∧ ms ≤ 1000 ∧ ∃ pad, b = [2, pad, BitVec.ofNat 8 ms, BitVec.ofNat 8 (ms / 256)]

/-! ## Invariants -/

/-- The list of bytes in host memory has its canonical form. -/
def State.memoryCanonical (s : State) : Prop := s.memory.wf

/-- The poller has its twelve ask slots (11.2), the chime engine its eight cards (11.5), the notice unit its eight counts
(R193), and each lateness history and the frame history its eight entries (R21, R72). -/
def State.shaped (s : State) : Prop :=
  s.poller.slots.length = 12 ∧ s.chime.cards.length = 8 ∧ s.notice.counts.length = 8 ∧
  (∀ d, (s.composer d).history.length = 8) ∧ s.capture.history.length = 8

/-- While ATTACHED, and while an attach is in progress, the area base is a multiple of 65,536 (R177, R178). -/
def State.baseAligned (s : State) : Prop :=
  s.port.attached = true ∨ s.port.attachResult = .pending → s.port.base.toNat % 65536 = 0

/-- The waiting list is in the order of R128: no chime stands behind one that it comes before. -/
def State.waitingOrdered (s : State) : Prop := s.chime.waiting.Pairwise fun a b => b.before a = false

/-- Each request waits at its own client and does what that client does (R166, R170): the poller's order holds reads and
status writes of the area poller, the audio fetcher's queue its reads, only reads are outstanding, and a status write on
the path is the poller's. No note of what a command writes is left between commands (log 13). -/
def State.requestsOwned (s : State) : Prop :=
  s.poller.written = [] ∧
  (∀ r ∈ s.poller.order, r.client = .poller ∧ ∀ frame row bytes, r.work ≠ .store frame row bytes) ∧
  (∀ r ∈ s.audio.queue, r.client = .audio ∧ r.isRead = true) ∧
  (∀ i ∈ s.arbiter.outstanding, i.request.isRead = true) ∧
  (∀ i o b, s.arbiter.path = some i → i.request.work = .status o b → i.request.client = .poller)

/-- At most 16 reads are outstanding (R167). -/
def State.readsBounded (s : State) : Prop := s.arbiter.outstanding.length ≤ 16

/-- The line buffer holds at most 8 lines (3.5). -/
def State.linesBounded (s : State) : Prop := s.capture.buffer.length ≤ 8

/-- The three store addresses of a record, when it holds them, are multiples of 256 (R73). -/
def CameraRecord.storesAligned (r : CameraRecord) : Prop :=
  ∀ st, r.stores = some st → ∀ n, (st.get n).toNat % 256 = 0

/-- A camera record in the ranges of R73, with its view rectangle in the scale limits of R76. -/
def CameraRecord.legal (r : CameraRecord) : Prop :=
  (320 ≤ r.width ∧ r.width ≤ 1280 ∧ r.width % 2 = 0) ∧ (240 ≤ r.height ∧ r.height ≤ 800 ∧ r.height % 2 = 0) ∧
  r.storesAligned ∧ r.decimation ≤ 3 ∧ r.threshold ≤ 63 ∧ 1 ≤ r.viewW ∧ 1 ≤ r.viewH ∧
  (r.width ≤ 4 * r.viewW ∧ r.viewW ≤ 8 * r.width) ∧ (r.height ≤ 4 * r.viewH ∧ r.viewH ≤ 8 * r.height) ∧
  r.strip ≤ 200 ∧ (500 ≤ r.deadline ∧ r.deadline ≤ 5000) ∧ r.linger ≤ 10000

/-- The kept camera record is legal: the default, or one that passed the checks of a CAMERA_LOAD (R73, R76). -/
def State.recordLegal (s : State) : Prop := s.capture.record.legal

/-- A sample that lies in the 24-bit range on both channels (R116). -/
def Stereo.in24Bits (v : Stereo) : Prop :=
  (-8388608 ≤ v.left ∧ v.left ≤ 8388607) ∧ (-8388608 ≤ v.right ∧ v.right ≤ 8388607)

/-- Every zone's output sample lies in the 24-bit range (R116). -/
def State.outputsIn24Bits (s : State) : Prop := ∀ z, (s.mixer.output.get z).in24Bits

end Sys2Proof.Machine
end

