-- ==== Sys2Proof/Certificates/Slice0/Obligations.lean ====
section
/-! DEFINITION. The statements about the part, for the provers. `AnswersNext c s u` says that command c answers a next
state from s, which is u in every field but for the status writes that wait in the poller's order; the statement
ChangedFieldsAreWritten says what those writes are. A state written as s with some fields changed is the frame: every
other field, memory included, is as before. -/

open Sys2Proof Sys2Proof.Machine

/-! ## The whole machine -/

/-- What cold start leaves where the manual names the value (R1, R26, R49, R73, R79, R84, R101, R119, R120, R142, R165,
R175 to R177, R185, R194, R196): in the port and the notice unit, the default timings and the rest of each composer, the
streams with clock mode SOUND, the capture unit with every field of the kept camera record, the guide engine, the mixer
with its taken routing, the chime engine, the reverse view with no last show time, FRONT, the arbiter and the poller. -/
def Obligations.ResetValues : Prop :=
  let s := State.reset
  (s.port.attached = false ∧ s.port.quiet = false ∧ s.port.attachResult = .none ∧ s.port.areaLo = 0 ∧
    s.port.areaHi = 0 ∧ s.port.attachCount = 0 ∧ s.port.blockCount = 0) ∧
  (s.notice.cause = 0 ∧ s.notice.mask = 0 ∧ s.notice.message = false ∧ s.notice.counts = List.replicate 8 0 ∧
    s.notice.lastFault = none) ∧
  (s.composers.front.timing = ⟨1280, 720, 1650, 750, 3, 0, false⟩ ∧
    s.composers.rearL.timing = ⟨1024, 600, 1250, 660, 5, 0, false⟩ ∧
    s.composers.rearR.timing = ⟨1024, 600, 1250, 660, 5, 0, false⟩) ∧
  (∀ d, (s.composer d).waiting = none ∧ (s.composer d).shown = none ∧ (s.composer d).lastSelect = none ∧
    (s.composer d).candidate = .none ∧ (s.composer d).bankFault = .none ∧ (s.composer d).level = .full ∧
    (s.composer d).held = none ∧ (s.composer d).history = List.replicate 8 .empty ∧ (s.composer d).userBlank = false ∧
    (s.composer d).entryBad = 0 ∧ (s.composer d).refusals = 0 ∧ (s.composer d).lateFrames = 0) ∧
  (∀ st, let f := s.stream st
    f.state = .stopped ∧ f.mode = .sound ∧ f.clock = 0 ∧ f.startPts = none ∧ f.waitingPlay = none ∧ f.frames = [] ∧
    f.sounds = [] ∧ f.headOffset = 0 ∧ f.framePosted = 0 ∧ f.frameReleased = 0 ∧ f.frameCursor = 0 ∧
    f.soundPosted = 0 ∧ f.soundReleased = 0 ∧ f.soundCursor = 0 ∧ f.current = ⟨none, none, none⟩ ∧
    f.underrun = ⟨false, false, false⟩ ∧ f.dropped = 0 ∧ f.badFrames = 0 ∧ f.badSounds = 0 ∧ f.underruns = 0 ∧
    f.starves = 0 ∧ f.misses = 0 ∧ f.superseded = none) ∧
  (s.capture.state = .off ∧ s.camPwr = false ∧ s.capture.askedOn = false ∧
    s.capture.record =
      { width := 1280, height := 720, wide := false, stores := none, decimation := 0, threshold := 8, viewX := 0,
        viewY := 0, viewW := 1280, viewH := 600, strip := 120, deadline := 2000, linger := 3000 } ∧
    s.capture.geometry = none ∧ s.capture.script = [] ∧ s.capture.openFrame = .none ∧ s.capture.buffer = [] ∧
    s.capture.published = none ∧ s.capture.frontReading = none ∧
    s.capture.history = List.replicate 8 .empty ∧ s.capture.poor = false) ∧
  (s.capture.publications = 0 ∧ s.capture.whole = 0 ∧ s.capture.spoiled = 0 ∧ s.capture.ignored = 0 ∧
    s.capture.suspectLines = 0 ∧ s.capture.missingLines = 0 ∧ s.capture.overruns = 0 ∧ s.capture.losses = 0 ∧
    s.capture.loads = 0 ∧ s.capture.faultStep = none ∧ s.capture.faultReason = .none ∧ s.capture.loadFault = .none) ∧
  (s.guide.sample = none ∧ s.guide.reference = none ∧ s.guide.freshness = .static ∧ s.guide.timer = none ∧
    s.guide.inFlight = none ∧ s.guide.shown = none ∧ s.guide.samplesTaken = 0 ∧ s.guide.staleCount = 0 ∧
    s.guide.completed = 0 ∧ s.guide.abandoned = 0) ∧
  (∀ r, s.route r = ⟨none, 36, none, 0, 0, none⟩) ∧
  (s.mixer.taken = ⟨⟨⟨⟨0, 0⟩, ⟨0, 0⟩, ⟨0, 0⟩⟩, ⟨⟨0, 0⟩, ⟨0, 0⟩, ⟨0, 0⟩⟩⟩, ⟨0, 0, 0⟩, 36⟩ ∧ s.mixer.lastCopy = none ∧
    s.mixer.duckHanded = false ∧ s.mixer.duckApplied = false ∧ s.mixer.muteHanded = false ∧ s.mixer.muteApplied = false ∧
    s.mixer.reverseHold = false ∧ s.mixer.quietMute = false ∧ s.mixer.wakeMark = false ∧
    s.mixer.clipMark = ⟨false, false, false⟩ ∧ s.mixer.clips = ⟨0, 0, 0⟩ ∧ s.mixer.routingFault = 0 ∧
    s.mixer.refusals = 0) ∧
  (s.chime.voice = .idle ∧ s.chime.waiting = [] ∧ s.chime.takes = 0 ∧
    (∀ c ∈ s.chime.cards, c.lastTaken = none ∧ c.state = .none) ∧ s.chime.proximity.state = .inactive ∧
    s.chime.proximity.fresh = false ∧ s.chime.proximity.nearest = none ∧ s.chime.proximity.showing = false ∧
    s.chime.finished = 0 ∧ s.chime.stopped = 0 ∧ s.chime.suppressed = 0 ∧ s.chime.refused = 0 ∧ s.chime.returns = 0 ∧
    s.chime.clipMisses = 0 ∧ s.chime.droppedRequests = 0) ∧
  (s.reverse.view = .off ∧ s.reverse.level = false ∧ s.reverse.debounce = none ∧ s.reverse.deadline = none ∧
    s.reverse.lingerTimer = none ∧ s.reverse.delivered = false ∧ s.reverse.engagements = 0 ∧
    s.reverse.unavailables = 0 ∧ s.reverse.expiries = 0 ∧ s.reverse.lastShow = none) ∧
  (s.frontView.mode = .normal ∧ s.frontView.locked = false ∧ s.frontView.leave = false) ∧
  (s.arbiter.rearTurn = .rearL ∧ s.arbiter.path = none ∧ s.arbiter.outstanding = [] ∧
    s.arbiter.consecutive = ⟨0, 0, 0, 0, 0, 0, 0⟩ ∧ s.arbiter.faults = ⟨0, 0, 0, 0, 0, 0, 0⟩ ∧ s.arbiter.total = 0 ∧
    s.arbiter.lastFault = none ∧ (∀ c, waitingRequest s c = none)) ∧
  (s.poller.frameErrors = ⟨0, 0⟩ ∧ s.poller.soundErrors = ⟨0, 0⟩ ∧
    ∀ a ∈ s.poller.slots, a.lastTaken = 0 ∧ a.reading = none)

/-- Every invariant below holds right after reset; that the bytes written to host memory are a list in a canonical form
is the model's choice (log 6), and so is the note of what a command writes (log 13). -/
def Obligations.ResetMeetsInvariants : Prop :=
  State.reset.memoryCanonical ∧ State.reset.readsBounded ∧ State.reset.linesBounded ∧ State.reset.outputsIn24Bits ∧
  State.reset.shaped ∧ State.reset.baseAligned ∧ State.reset.waitingOrdered ∧ State.reset.recordLegal ∧
  State.reset.requestsOwned

/-- A step runs the command at the front of the queue on the state with the queue's rest, and no command touches the
queue. On an empty queue one period of the 48 kHz sample clock passes: the queue and the idle step are the model's
choice (log 3, log 10). -/
def Obligations.StepRunsFrontCommand : Prop :=
  ((∀ (c : Instr) (rest : List Instr) (s : State), s.pending = c :: rest → step s = exec c { s with pending := rest }) ∧
    (∀ s : State, s.pending = [] → ∃ t, step s = .next t ∧ SameButWrites t (tick s))) ∧
  (∀ (c : Instr) (s t : State), exec c s = .next t → t.pending = s.pending)

/-- Bytes of host memory change only when the link port has sent a status write or a store write (R166, R182): every
other command leaves every byte as it is, and so does a sample period in which no command waits (the model's idle step,
log 3). -/
def Obligations.OnlySentWritesReachMemory : Prop :=
  (∀ (c : Instr) (s t : State), c ≠ .statusWriteComplete → c ≠ .storeWriteDone → exec c s = .next t →
    ∀ a, t.memory.read a = s.memory.read a) ∧
  (∀ s t : State, s.pending = [] → step s = .next t → ∀ a, t.memory.read a = s.memory.read a)

/-- Every step keeps the canonical form of the list of bytes written (the model's memory, log 6), and the twelve ask
slots, eight cards, eight notice counts and eight entries of each history. It keeps each request at its own client:
reads and status writes of the area poller in the poller's order, reads in the audio fetcher's queue, and only reads
outstanding (R166, R170); and it leaves no note of what it has written behind (the model's own, log 13). -/
def Obligations.MemoryAndShapeAreKept : Prop :=
  (∀ s t : State, s.memoryCanonical → step s = .next t → t.memoryCanonical) ∧
  (∀ s t : State, s.shaped → step s = .next t → t.shaped) ∧
  (∀ s t : State, s.requestsOwned → step s = .next t → t.requestsOwned)

/-- Every step keeps at most 16 reads outstanding (R166, R167), at most 8 lines in the line buffer (3.5, R66), and the
kept camera record, the default or one that passed the checks of R76, in the ranges of R73. -/
def Obligations.BoundsAreKept : Prop :=
  (∀ s t : State, s.readsBounded → step s = .next t → t.readsBounded) ∧
  (∀ s t : State, s.linesBounded → step s = .next t → t.linesBounded) ∧
  (∀ s t : State, s.recordLegal → step s = .next t → t.recordLegal)

/-- Every step keeps every output sample of every zone within -8,388,608..8,388,607 (R116). -/
def Obligations.OutputsStayIn24Bits : Prop :=
  ∀ s t : State, s.outputsIn24Bits → step s = .next t → t.outputsIn24Bits

/-- Every step keeps the area base a multiple of 65,536 while ATTACHED or PENDING (R177, R178). -/
def Obligations.BaseStaysAligned : Prop :=
  ∀ s t : State, s.baseAligned → step s = .next t → t.baseAligned

/-- Only a good header read in an attach in progress makes the part ATTACHED (R178, R179). -/
def Obligations.OnlyAGoodHeaderAttaches : Prop :=
  ∀ s t : State, s.port.attached = false → step s = .next t → t.port.attached = true →
    s.port.attachResult = .pending ∧
    ∃ tag bytes rest, s.pending = .headerReadDone tag (.data bytes) :: rest ∧ headerGood bytes = true

/-- While ATTACHED before and after a command, each status field that the command changes waits in the poller's order,
once the command is done, as a write of its present bytes (R170, R195). That a command's writes are made together at its
end, and that the media clock, the mixer status and the vehicle reference are compared in the form last written, is the
model's reading (log 13). When no status write waits before the command, the writes of counts stand behind those of the
data, and the notice counts behind both (R170, R193), but at a QUIET, whose counts are written first (R195); and a bank
fault stands before the other data, the shown bank among them (R9). A field whose write ends with a fault in this
command has no part in that order: its write waits again in the order as the command found it (R172). -/
def Obligations.ChangedFieldsAreWritten : Prop :=
  (∀ (c : Instr) (s t : State), s.shaped → s.port.attached = true → exec c s = .next t → t.port.attached = true →
    ∀ p ∈ (statusFields s).zip (statusFields t), p.1.data ≠ p.2.data →
      p.1.off = p.2.off ∧ ⟨.poller, t.areaAddr p.2.off, .status p.2.off p.2.data⟩ ∈ t.poller.order) ∧
  (∀ (c : Instr) (s t : State), s.shaped → s.port.attached = true → exec c s = .next t → t.port.attached = true →
    c ≠ .quiet → (∀ r ∈ s.poller.order, r.isRead = true) →
    let fault (f : StatusField) : Prop := f.off = 0x8630 ∨ f.off = 0x8730 ∨ f.off = 0x8830
    let write (f : StatusField) : Request := ⟨.poller, t.areaAddr f.off, .status f.off f.data⟩
    let faulted (f : StatusField) : Prop :=
      (c = .sendTimeout ∨ ∃ tag, c = .readTimeout tag ∨ ∃ k, c = .linkRequestFault tag k) ∧
      ∃ i bytes, (s.arbiter.path = some i ∨ i ∈ s.arbiter.outstanding) ∧ i.live = true ∧
        i.request.work = .status f.off bytes
    ∀ a ∈ statusFields t, ∀ b ∈ statusFields t, ¬faulted a → ¬faulted b →
      (a.rank < b.rank ∨ (a.rank = 0 ∧ b.rank = 0 ∧ fault a ∧ ¬fault b)) →
      ∀ i j : Nat, t.poller.order[i]? = some (write a) → t.poller.order[j]? = some (write b) → i < j) ∧
  (∀ (c : Instr) (s t : State) (i : Issued) (o : Nat) (bytes : List Byte), s.port.attached = true →
    s.arbiter.path = some i → i.live = true → i.request.work = .status o bytes →
    (c = .sendTimeout ∨ (s.outstandingAt i.tag = none ∧ ∃ k, c = .linkRequestFault i.tag k)) →
    exec c s = .next t → t.port.attached = true → ∃ r ∈ t.poller.order, ∃ x, r.work = .status o x)

/-- The four commands without effect (R52, R171, R176, R201): a RUN write whose command field, bits 10..8, is 0 or 5
to 7; a write to IDENT or to offsets 0x18 to 0x1F; an element the receiver does not recognise; a completion whose read
has ended, whatever its tag (the model's reading, log 32). A value or offset that spells another command is an
ill-formed command, which stops (the model's choice, log 15). -/
def Obligations.CommandsWithoutEffect : Prop :=
  (∀ (v : Word) (s : State), (v.extractLsb' 8 3 = 0 ∨ 5 ≤ (v.extractLsb' 8 3).toNat) →
    exec (.noCommand v) s = .next s) ∧
  (∀ (v : Word) (s : State), 1 ≤ (v.extractLsb' 8 3).toNat → (v.extractLsb' 8 3).toNat ≤ 4 →
    exec (.noCommand v) s = .fault .illFormed) ∧
  (∀ (o : Nat) (v : Word) (s : State), (o < 4 ∨ (24 ≤ o ∧ o < 32)) → exec (.registerWriteIgnored o v) s = .next s) ∧
  (∀ (o : Nat) (v : Word) (s : State), ((4 ≤ o ∧ o < 24) ∨ 32 ≤ o) →
    exec (.registerWriteIgnored o v) s = .fault .illFormed) ∧
  (∀ s : State, exec .unrecognisedElement s = .next s) ∧
  (∀ (tag : Nat) (s : State), exec (.lateCompletionDiscarded tag) s = .next s)

/-! ## The register window and the notice unit (chapters 9, 10) -/

/-- AREA_LO and AREA_HI (R177): while DETACHED and not PENDING a write replaces its half of the base; otherwise it is
discarded. A read returns the halves held. -/
def Obligations.AreaBaseWrite : Prop :=
  (∀ (v : Word) (s : State), s.port.attached = false → s.port.attachResult ≠ .pending →
    exec (.areaBaseWrite .lo v) s = .next { s with port := { s.port with areaLo := v } } ∧
    exec (.areaBaseWrite .hi v) s = .next { s with port := { s.port with areaHi := v } }) ∧
  (∀ (h : AreaHalf) (v : Word) (s : State), (s.port.attached = true ∨ s.port.attachResult = .pending) →
    AnswersNext (.areaBaseWrite h v) s s) ∧
  (∀ s : State, readWindow 4 s = s.port.areaLo ∧ readWindow 8 s = s.port.areaHi ∧
    s.port.base = s.port.areaHi ++ s.port.areaLo)

/-- R190. A setting event sets its flag whatever MASK holds, and leaves the other flags; a write to CAUSE clears each
flag written as one, leaves the others, and discards the bits that name no flag; a read of CAUSE returns the flags,
the other bits 0. A write first and an event of the same flag after it leave the flag set; the other order leaves it
clear, with the notice count advanced all the same. -/
def Obligations.CauseFlags : Prop :=
  (∀ (f : Flag) (s : State) (k : Nat), k < 8 →
    (setFlag f s).notice.cause.getLsbD k = (s.notice.cause.getLsbD k || k == f.bit)) ∧
  (∀ (v : Word) (s : State), ∃ t n, exec (.causeWrite v) s = .next t ∧
    SameButWrites t { s with notice := { s.notice with cause := n } } ∧
    ∀ k, k < 8 → n.getLsbD k = (s.notice.cause.getLsbD k && !v.getLsbD k)) ∧
  (∀ (s : State) (k : Nat), (readWindow 16 s).getLsbD k = (decide (k < 8) && s.notice.cause.getLsbD k)) ∧
  (∀ (f : Flag) (v : Word) (s : State), v.getLsbD f.bit = true →
    (setFlag f { s with notice := clearFlags v s.notice }).notice.cause.getLsbD f.bit = true ∧
    (clearFlags v (setFlag f s).notice).cause.getLsbD f.bit = false ∧
    (clearFlags v (setFlag f s).notice).counts = (setFlag f s).notice.counts)

/-- R191. A message is asked for when a flag goes from clear to set while its enable is set, and when a write to MASK
takes an enable from clear to set while its flag is set; nothing else asks for one, and clearing withdraws none. A
write to MASK replaces every enable; the bits that name no flag are discarded and read as zero. -/
def Obligations.MessageRequests : Prop :=
  (∀ (f : Flag) (s : State), (setFlag f s).notice.message = true ↔
    (s.notice.message = true ∨ (s.notice.cause.getLsbD f.bit = false ∧ s.notice.mask.getLsbD f.bit = true))) ∧
  (∀ (v : Word) (s : State), ∃ t m b, exec (.maskWrite v) s = .next t ∧
    SameButWrites t { s with notice := { s.notice with mask := m, message := b } } ∧
    (∀ k, k < 8 → m.getLsbD k = v.getLsbD k) ∧
    (b = true ↔ (s.notice.message = true ∨
      ∃ k, k < 8 ∧ v.getLsbD k = true ∧ s.notice.mask.getLsbD k = false ∧ s.notice.cause.getLsbD k = true))) ∧
  (∀ (v : Word) (s : State), (clearFlags v s.notice).message = s.notice.message) ∧
  (∀ (s : State) (k : Nat), (readWindow 20 s).getLsbD k = (decide (k < 8) && s.notice.mask.getLsbD k))

/-- A setting event advances its notice count by one and no other (R193); it changes nothing outside the notice unit. An
AREA_FAULT event also replaces the last area fault record with its kind, its place and the block count, which it writes
while ATTACHED (R194). -/
def Obligations.NoticeCountsAndRecord : Prop :=
  (∀ (f : Flag) (s : State) (k : Nat), s.shaped → k < 8 →
    (setFlag f s).notice.counts.getD k 0 = s.notice.counts.getD k 0 + (if k = f.bit then 1 else 0)) ∧
  (∀ (f : Flag) (s : State), { setFlag f s with notice := s.notice } = s ∧
    (setFlag f s).notice.mask = s.notice.mask ∧ (setFlag f s).notice.lastFault = s.notice.lastFault) ∧
  (∀ (k : AreaFaultKind) (p : Word) (s : State),
    (areaFault k p s).notice =
      { (setFlag .areaFault s).notice with lastFault := some ⟨k, p, s.port.blockCount⟩ } ∧
    SameButWrites { areaFault k p s with notice := s.notice } s ∧
    (areaFault k p s).poller.order = s.poller.order ∧
    (areaFault k p s).poller.written =
      s.poller.written ++ (if s.port.attached then [0x8040, 0x8044, 0x8048] else []))

/-- R192's sending: a pending message is sent when the path is free, and the mark becomes clear. The path is free with
nothing on it or a read, whose sending takes no time, the message's sending is the clearing of its mark, and the command
with no message pending or a write on the path changes nothing: the model's readings and choice (log 20, log 37,
log 14). -/
def Obligations.MessageIsSent : Prop :=
  (∀ s : State, s.notice.message = true →
    (s.arbiter.path = none ∨ ∃ i, s.arbiter.path = some i ∧ i.request.isRead = true) →
    AnswersNext .messageSend s { s with
      notice := { s.notice with message := false }
      arbiter := { s.arbiter with path := none } }) ∧
  (∀ s : State, s.notice.message = false → AnswersNext .messageSend s s) ∧
  (∀ (s : State) (i : Issued), s.arbiter.path = some i → i.request.isRead = false → AnswersNext .messageSend s s)

/-- R178. An ATTACH while DETACHED and not PENDING: with a base that is no multiple of 65,536 the result is MISALIGNED
and AREA_FAULT is set with the record of R194; otherwise the result is PENDING and the header's first 256 bytes are
read as an area poller request. While ATTACHED or PENDING it changes nothing. The activity is kept in each case. -/
def Obligations.AttachStarts : Prop :=
  (∀ s : State, s.port.attached = false → s.port.attachResult ≠ .pending → s.port.base.toNat % 65536 ≠ 0 →
    exec .attach s =
      .next (areaFault .attach 3 { s with port := { s.port with attachResult := .misaligned } })) ∧
  (∀ s : State, s.port.attached = false → s.port.attachResult ≠ .pending → s.port.base.toNat % 65536 = 0 →
    exec .attach s = .next { s with
      port := { s.port with attachResult := .pending }
      poller := { s.poller with order := s.poller.order ++ [⟨.poller, s.port.base, .read .header 256⟩] } }) ∧
  (∀ s : State, (s.port.attached = true ∨ s.port.attachResult = .pending) → AnswersNext .attach s s)

/-- The header read of an attach in progress ends (R179, R180, R187). A good header makes the part ATTACHED with OK,
the attach count one higher, each other count of each block 0, every ask's record empty with last taken sequence 0 and
the block count, every chime's answered sequence 0 with answer state none, and what the guide status says of a
completed set nothing when none is shown (R101); everything else is kept but FRONT's leave mark. The model's readings
and choice: the streams' superseded sequences stay (R49 empties them at cold start alone) and the last link fault
becomes none (log 17); a chime's record holds 0 repetitions done and block count 0 (log 19); what the status says of a
completed set stays while a set is shown (log 57); the media clocks, the reference count and the mixer status as last
written are the held ones (log 13). A header that is not good gives BAD_VERSION, and a fault READ_FAULT, each with
AREA_FAULT. A good header has layout version 1 and the thirteen offsets and sizes of the region map (9.3), spelled, from
byte 16 on.
-/
def Obligations.HeaderReadEnds : Prop :=
  (∀ (s : State) (tag : Nat) (i : Issued), s.awaits tag i .header 256 → s.port.attached = false →
      s.port.attachResult = .pending →
      (∀ bytes : List Byte, bytes.length = 256 → headerGood bytes = true →
        ∃ t, exec (.headerReadDone tag (.data bytes)) s = .next t ∧
          t.port = { s.port with attached := true, attachResult := .ok, attachCount := s.port.attachCount + 1 } ∧
          t.notice = { s.notice with counts := List.replicate 8 0 } ∧
          t.poller.slots = List.replicate 12 ⟨0, none, 0, .empty, s.port.blockCount⟩ ∧
          t.poller.frameErrors = ⟨0, 0⟩ ∧ t.poller.soundErrors = ⟨0, 0⟩ ∧ t.readOrder = s.readOrder ∧
          t.arbiter = { (s.readEnded i).arbiter with faults := ⟨0, 0, 0, 0, 0, 0, 0⟩, total := 0, lastFault := none } ∧
          (∀ d, t.composer d = { s.composer d with entryBad := 0, refusals := 0, lateFrames := 0 }) ∧
          (∀ st, t.stream st = { s.stream st with
            dropped := 0, badFrames := 0, badSounds := 0, underruns := 0, starves := 0, misses := 0
            superseded := (s.stream st).superseded, clockShown := (s.stream st).clock }) ∧
          t.capture = { s.capture with
            publications := 0, whole := 0, spoiled := 0, ignored := 0, suspectLines := 0, missingLines := 0
            overruns := 0, losses := 0, loads := 0 } ∧
          t.guide = { s.guide with
            samplesTaken := 0, staleCount := 0, completed := 0, abandoned := 0, referenceShown := s.guide.reference
            summary := if s.guide.shown = none then ⟨0, 0, false, false, false, none⟩ else s.guide.summary } ∧
          t.mixer = { s.mixer with
            clips := ⟨0, 0, 0⟩, refusals := 0, shown := mixerReport { s.mixer with clips := ⟨0, 0, 0⟩, refusals := 0 } } ∧
          t.chime = { s.chime with
            finished := 0, stopped := 0, suppressed := 0, refused := 0, returns := 0, clipMisses := 0
            droppedRequests := 0
            cards := s.chime.cards.map fun k => ⟨k.lastTaken, 0, .none, 0, 0⟩ } ∧
          t.reverse = { s.reverse with engagements := 0, unavailables := 0, expiries := 0 } ∧
          t.audio = s.audio ∧ t.twin = s.twin ∧ t.frontView.mode = s.frontView.mode ∧
          (∀ a, t.memory.read a = s.memory.read a)) ∧
      (∀ bytes : List Byte, bytes.length = 256 → headerGood bytes = false →
        exec (.headerReadDone tag (.data bytes)) s = .next (areaFault .attach 4
          { s.readEnded i with port := { s.port with attachResult := .badVersion } })) ∧
      (∃ t, exec (.headerReadDone tag .error) s = .next t ∧
        t.port = { s.port with attachResult := .readFault } ∧
        t.notice.lastFault = some ⟨.attach, 5, s.port.blockCount⟩ ∧
        t.arbiter.total = s.arbiter.total + 1 ∧ t.arbiter.consecutive = s.arbiter.consecutive)) ∧
  (∀ bytes : List Byte, headerGood bytes = true ↔
      (wordAt bytes 0 = 1 ∧ ∀ k, k < 13 →
        wordAt bytes (16 + 8 * k) = wordOfNat ([0x0100, 0x0400, 0x0500, 0x0600, 0x0700, 0x0800, 0x1000, 0x2800, 0x3000,
          0x3800, 0x4000, 0x5000, 0x8000].getD k 0) ∧
        wordAt bytes (20 + 8 * k) =
          wordOfNat ([384, 256, 256, 256, 256, 768, 6144, 256, 2048, 2048, 512, 2048, 32768].getD k 0)))

/-- The status writes of a good header (R180, R200): behind the reads that wait, one write for each field of the status
page with the value its block now holds, then zeros from 0x9000 to 0xFFFF in writes of 256 bytes, all in ascending order
of addresses within the page, and last the attach count with its new value. That these are all, so that the bytes below
0x9000 which no field takes are not written, is the model's reading (log 13). The page is spelled whole (11.8): each
field's offset, its bytes as an expression of the state, numbers low byte first and states by their codes, and its
order at an event, 0 for data, 1 for counts, 2 for notice counts, 3 for what only an attach writes (R170, R193); unused
bytes 0 (log 60) and a reference count of none 0xFFFFFFFF (log 62) are the model's choice. The mixer's words are those
last written (R121), each report's words spelled, and the media clocks and the reference count those last shown. -/
def Obligations.InitialContents : Prop :=
  (∀ (s : State) (tag : Nat) (i : Issued) (bytes : List Byte), s.awaits tag i .header 256 → s.port.attached = false →
    s.port.attachResult = .pending → s.shaped → bytes.length = 256 → headerGood bytes = true →
    (∀ r ∈ s.poller.order, r.isRead = true) →
    ∃ t ws, exec (.headerReadDone tag (.data bytes)) s = .next t ∧
      t.poller.order = s.poller.order ++
        ws ++ [⟨.poller, t.areaAddr 0x8004, .status 0x8004 (wordBytes (s.port.attachCount + 1))⟩] ∧
      ws = (((statusFields t).filter fun f => f.off != 0x8004).map fun f =>
          ⟨.poller, t.areaAddr f.off, .status f.off f.data⟩) ++
        (List.range 112).map (fun k => ⟨.poller, t.areaAddr (0x9000 + 256 * k),
          .status (0x9000 + 256 * k) (List.replicate 256 0)⟩) ∧
      (∀ w ∈ ws, ∃ o l, w = ⟨.poller, t.areaAddr o, .status o l⟩ ∧ 0x8000 ≤ o ∧ o + l.length ≤ 0x10000) ∧
      ws.Pairwise (fun a b => ∀ o l o' l', a.work = .status o l → b.work = .status o' l' → o + l.length ≤ o')) ∧
  (∀ s : State,
    let number (n : Nat) : Word := BitVec.ofNat 32 n
    let flag (b : Bool) : Word := if b then 1 else 0
    let none32 : Word := 0xFFFFFFFF
    let index (i : Option Nat) : Word := match i with | some n => number n | none => none32
    let le (w : Word) : List Byte := [w.extractLsb' 0 8, w.extractLsb' 8 8, w.extractLsb' 16 8, w.extractLsb' 24 8]
    let half (n : Nat) : List Byte := [BitVec.ofNat 8 n, BitVec.ofNat 8 (n / 256)]
    let address (a : Addr) : List Byte := le (a.extractLsb' 0 32) ++ le (a.extractLsb' 32 32)
    let words (rank off : Nat) (l : List Word) : List (Nat × Nat × List Byte) :=
      l.mapIdx fun k w => (off + 4 * k, rank, le w)
    let level (l : Level) : Word := number ([Level.full, .reduced, .minimal].idxOf l)
    let source (x : ChimeSource) : Nat := match x with
      | .card n => n
      | .cameraUnavailable => 8
      | .sensingUnavailable => 9
    let area : List (Nat × Nat × List Byte) :=
      words 3 0x8000 [1, s.port.attachCount] ++ words 0 0x8008 [s.port.blockCount] ++
      words 1 0x800C [s.poller.frameErrors.f0, s.poller.frameErrors.f1, s.poller.soundErrors.f0, s.poller.soundErrors.f1] ++
      words 2 0x8020 s.notice.counts ++
      words 0 0x8040 (match s.notice.lastFault with
        | none => [0, 0, 0]
        | some f => [number (1 + [AreaFaultKind.select, .bankCount, .bankRead, .routing, .postedCount, .attach,
            .selfDetach].idxOf f.kind), f.place, f.blockCount])
    let asks : List (Nat × Nat × List Byte) := s.poller.slots.mapIdx fun n a => (0x8100 + 16 * n, 0,
      le a.answered ++
      le (number ([AskResult.empty, .done, .refusedState, .refusedField, .superseded].idxOf a.result)) ++
      le a.blockCount ++ le 0)
    let cards : List (Nat × Nat × List Byte) := s.chime.cards.mapIdx fun n k => (0x8200 + 16 * n, 0,
      le k.answered ++
      le (number ([ChimeAnswer.none, .waiting, .playing, .finished, .stopped, .suppressed, .refused].idxOf k.state)) ++
      le k.done ++ le k.blockCount)
    let stream (st : Stream) (off : Nat) : List (Nat × Nat × List Byte) :=
      let f := s.stream st
      let tag (d : Display) : Word := match f.current.get d with
        | none => 0
        | some k => match f.frames.find? (fun c => c.index == k) with
          | some c => c.tag
          | none => 0
      words 0 off [number ([StreamState.stopped, .priming, .playing, .paused, .starved].idxOf f.state),
        number ([ClockMode.sound, .free].idxOf f.mode), f.clockShown, f.frameReleased, f.soundReleased,
        f.current.front.getD none32, f.current.rearL.getD none32, f.current.rearR.getD none32,
        tag .front, tag .rearL, tag .rearR] ++
      words 1 (off + 0x2C) [f.dropped, f.badFrames, f.badSounds, f.underruns, f.starves, f.misses] ++
      words 0 (off + 0x44) [f.superseded.getD 0]
    let display (d : Display) (off : Nat) : List (Nat × Nat × List Byte) :=
      let c := s.composer d
      let x := s.timing d
      let bad : Word := number (((List.range c.entries.length).map fun p =>
        if (c.entries[p]?.map (·.bad)) = some true then 2 ^ p else 0).sum)
      words 0 off [number x.activeW, number x.activeH, number x.totalW, number x.totalH, number x.divider, number x.lead,
        flag x.pair, flag c.blank, number ((if c.reasons.user then 1 else 0) + (if c.reasons.quiet then 2 else 0) +
          (if c.reasons.restart then 4 else 0) + (if c.reasons.detached then 8 else 0)),
        (match c.shown with | none => none32 | some b => number ([Bank.a, .b].idxOf b.bank)),
        (match c.shown with | none => 0 | some b => b.count), bad,
        number ([BankFault.none, .select, .count, .read].idxOf c.bankFault)] ++
      words 1 (off + 0x34) [c.entryBad, c.refusals] ++ words 0 (off + 0x3C) [level c.level] ++
      [(off + 0x40, 0, c.history.map fun m => BitVec.ofNat 8 ([LateMark.empty, .onTime, .late].idxOf m))] ++
      words 0 (off + 0x48) [match c.held with | none => none32 | some l => level l] ++
      words 1 (off + 0x4C) [c.lateFrames] ++ words 0 (off + 0x50) [flag (d != .front && s.twin.inUse)]
    let c := s.capture
    let record : List Byte :=
      half c.record.width ++ half c.record.height ++
      [if c.record.wide then 1 else 0, BitVec.ofNat 8 c.record.decimation, BitVec.ofNat 8 c.record.threshold, 0] ++
      (match c.record.stores with
        | none => List.replicate 24 0
        | some st => address st.s0 ++ address st.s1 ++ address st.s2) ++
      half c.record.viewX ++ half c.record.viewY ++ half c.record.viewW ++ half c.record.viewH ++ half c.record.strip ++
      half c.record.deadline ++ half c.record.linger ++ [0, 0]
    let camera : List (Nat × Nat × List Byte) :=
      words 0 0x8A00 [number ([CaptureState.off, .powering, .setup, .armed, .capturing, .stopping, .lost,
        .fault].idxOf c.state), flag c.askedOn, index (c.published.map (·.store)),
        (match c.published with | none => none32 | some p => number p.number.toNat)] ++
      words 1 0x8A10 [c.publications] ++
      [(0x8A14, 0, c.history.map fun m => BitVec.ofNat 8 ([FrameMark.empty, .whole, .bad].idxOf m))] ++
      words 0 0x8A1C [flag c.poor] ++
      words 1 0x8A20 [c.whole, c.spoiled, c.ignored, c.suspectLines, c.missingLines, c.overruns, c.losses] ++
      words 0 0x8A3C [index c.faultStep,
        number ([ScriptFault.none, .nackAddress, .nackData, .busTimeout].idxOf c.faultReason),
        number ([LoadFault.none, .camera, .geometry, .script].idxOf c.loadFault)] ++
      words 1 0x8A48 [c.loads] ++ [(0x8A80, 0, record)]
    let g := s.guide
    let guide : List (Nat × Nat × List Byte) :=
      words 0 0x8B00 [number ([Freshness.fresh, .held, .static].idxOf g.freshness), g.referenceShown.getD none32] ++
      words 1 0x8B08 [g.samplesTaken, g.staleCount] ++
      words 0 0x8B10 ((match g.shown with
        | none => [0, 0, 0, 0]
        | some x => [number (1 + [SetKind.live, .held, .static].idxOf x.kind), BitVec.ofInt 32 x.angle] ++
          (match x.turn with
            | none => [0x80000000, 0]
            | some (delta, rho) => [BitVec.ofInt 32 delta, BitVec.ofInt 32 rho])) ++
        [number g.summary.left, number g.summary.right, number ((if g.summary.mark1 then 1 else 0) +
          (if g.summary.mark2 then 2 else 0) + (if g.summary.mark3 then 4 else 0)), flag g.summary.bar.isSome,
         number (g.summary.bar.getD 0)]) ++
      words 1 0x8B34 [g.completed, g.abandoned]
    let mixer : List (Nat × Nat × List Byte) := (List.range 54).map fun k =>
      (if k < 42 then 0x8C00 + 32 * (k / 7) + 4 * (k % 7) else 0x8CC0 + 4 * (k - 42),
       if k = 49 ∨ k = 50 ∨ k = 51 ∨ k = 53 then 1 else 0, le (s.mixer.shown.getD k 0))
    let e := s.chime
    let inside (x : ChimeSource) : Byte :=
      if (match e.voice with | .idle => false | .sounding v => v.chime.source == x | .releasing v _ => v.chime.source == x)
      then 2 else if e.waiting.any fun y => y.source == x then 1 else 0
    let chimes : List (Nat × Nat × List Byte) :=
      words 0 0x8D00 ((match e.voice with
        | .idle => [0, none32, 0, 0]
        | .sounding v => [1, number (source v.chime.source), number v.chime.cls, number v.chime.done]
        | .releasing v _ => [2, number (source v.chime.source), number v.chime.cls, number v.chime.done]) ++
        [number e.waiting.length]) ++
      [(0x8D18, 0, (List.range 10).flatMap fun k => match e.waiting[k]? with
        | some x => [BitVec.ofNat 8 (source x.source), BitVec.ofNat 8 x.cls, 0, 0] ++ le (number x.done)
        | none => [0xFF, 0, 0, 0, 0, 0, 0, 0]),
       (0x8D68, 0, [inside .cameraUnavailable, inside .sensingUnavailable, 0, 0])] ++
      words 0 0x8D6C [number ([ProximityState.inactive, .beep, .gap, .releasing, .starting].idxOf e.proximity.state),
        number e.proximity.offTime] ++
      words 1 0x8D74 [e.finished, e.stopped, e.suppressed, e.refused, e.returns, e.clipMisses, e.droppedRequests]
    let r := s.reverse
    let reverse : List (Nat × Nat × List Byte) :=
      words 0 0x8E00 [flag r.level, number ([View.off, .waking, .showing, .unavailable, .linger].idxOf r.view),
        flag r.delivered, number ([FrontMode.normal, .reverse, .direct].idxOf s.frontView.mode), flag s.frontView.locked,
        flag s.frontView.leave] ++
      words 1 0x8E18 [r.engagements, r.unavailables, r.expiries] ++ words 0 0x8E24 [index r.lastShow]
    let a := s.arbiter
    let link : List (Nat × Nat × List Byte) :=
      words 1 0x8F00 [a.faults.front, a.faults.rearL, a.faults.rearR, a.faults.twin, a.faults.storeWriter,
        a.faults.audio, a.faults.poller, a.total] ++
      words 0 0x8F20 (match a.lastFault with
        | none => [0, 0]
        | some f => [number ([Client.front, .rearL, .rearR, .twin, .storeWriter, .audio, .poller].idxOf f.client),
            number (1 + [FaultKind.error, .corrupted, .length, .timeout, .notSent].idxOf f.kind)]) ++
      [(0x8F28, 0, address (match a.lastFault with | none => 0 | some f => f.addr))]
    (statusFields s).map (fun f => (f.off, f.rank, f.data)) =
      area ++ asks ++ cards ++ stream .f0 0x8400 ++ stream .f1 0x8500 ++ display .front 0x8600 ++
      display .rearL 0x8700 ++ display .rearR 0x8800 ++ camera ++ guide ++ mixer ++ chimes ++ reverse ++ link) ∧
  (∀ m : Mixer, mixerReport m =
    ([(Stream.f0, Zone.cabin), (.f0, .phonesL), (.f0, .phonesR), (.f1, .cabin), (.f1, .phonesL),
        (.f1, .phonesR)].flatMap fun r =>
      let x := (m.taken.routes.get r.1).get r.2
      let y := (m.routes.get r.1).get r.2
      [x.enable.setWidth 32, x.attenuation.setWidth 32,
       (match y.level with | none => 0xFFFFFFFF | some l => BitVec.ofNat 32 l), BitVec.ofNat 32 y.gain,
       BitVec.ofNat 32 y.target, (if y.ramp = none then 0 else 1), (if y.pending = none then 0 else 1)]) ++
    [m.taken.masters.cabin.setWidth 32, m.taken.masters.phonesL.setWidth 32, m.taken.masters.phonesR.setWidth 32,
     m.taken.duck.setWidth 32, (if m.duckApplied then 1 else 0), (if m.muteApplied then 1 else 0),
     (if m.quietMute then 1 else 0), m.clips.cabin, m.clips.phonesL, m.clips.phonesR, BitVec.ofNat 32 m.routingFault,
     m.refusals])

/-- DETACH (R181, R183). While ATTACHED: DETACHED with result NONE, nothing waits in the poller's order, no ask is in
reading, every outstanding read is left to be discarded, and what each block forgets is spelled by `Forgets`: the shown
banks, the candidates, the waiting timings and the bank faults; the streams STOPPED with their counts 0; the asked-on
mark, whose drop of the need the capture state follows, the published store and the store FRONT reads; the guide's
sample, the set shown and the computation in flight; the routing, every route's level MUTE with a ramp from its gain;
the tray, its waiting chimes and answer states, its chime on the voice marked to end; and the consecutive fault counts. Every
camera frame not complete is abandoned when stores were in use, and those that the store writer consumes in any case,
so that nothing of it is left to write (R78, R175; what is left to FRONT alone is the model's reading, log 28). In an
attach in progress: result NONE. Otherwise nothing. -/
def Obligations.DetachEffect : Prop :=
  (∀ s : State, s.port.attached = true → ∃ t, exec .detach s = .next t ∧
    t.port = { s.port with attached := false, attachResult := .none } ∧
    t.poller.order = [] ∧ (∀ a ∈ t.poller.slots, a.reading = none) ∧
    (∀ i ∈ t.arbiter.outstanding, i.live = false) ∧
    Forgets s t ∧ (∀ d, (t.composer d).level = (s.composer d).level ∧ (t.composer d).held = (s.composer d).held ∧
      (t.composer d).history = (s.composer d).history ∧ (t.composer d).userBlank = (s.composer d).userBlank) ∧
    t.mixer.quietMute = s.mixer.quietMute ∧ t.mixer.wakeMark = s.mixer.wakeMark ∧
    t.frontView.mode = s.frontView.mode ∧ t.frontView.locked = s.frontView.locked ∧ t.audio.queue = [] ∧
    (t.capture.state = s.capture.state → t.notice = s.notice) ∧
    (t.capture.state ≠ s.capture.state → t.notice.cause.getLsbD Flag.cameraChange.bit = true) ∧
    (s.storesInUse = true → t.capture.frames = []) ∧ (∀ f ∈ t.capture.frames, f.toWriter = false) ∧
    ((∀ l ∈ s.capture.buffer, l.forWriter = true → ∀ f ∈ s.capture.frames, f.id = l.frame → f.toWriter = true) →
      waitingRequest t .storeWriter = none) ∧
    t.notice.mask = s.notice.mask ∧ (∀ a, t.memory.read a = s.memory.read a)) ∧
  (∀ s : State, s.port.attached = false → s.port.attachResult = .pending → ∃ t, exec .detach s = .next t ∧
    t.port = { s.port with attachResult := .none } ∧ t.poller.order = [] ∧
    (∀ i ∈ t.arbiter.outstanding, i.live = false)) ∧
  (∀ s : State, s.port.attached = false → s.port.attachResult ≠ .pending → exec .detach s = .next s)

/-- QUIET and WAKE (R184, R118, R195). QUIET while ACTIVE makes the activity QUIET and sets every count to 0 (notice,
link fault, posted error, composer, film, capture, guide, clip, routing refusal, chime and reverse counts). A drop of
the need for the camera that it brings acts behind that (log 33): a camera with no kept frame goes OFF, in SETUP
at once during a WAIT and at the end of the transaction during a WRITE, CAPTURING with a kept frame becomes STOPPING,
and each such change, POOR's clearing among them, counts as one CAMERA_CHANGE and sets no other flag; OFF, STOPPING and
a camera held or not asked on stay. It mutes every route and keeps the answers, the base and every setting. WAKE while
QUIET makes the activity ACTIVE, leaves the quiet mute to the next block start, and for a need that rises powers up a
camera in OFF, takes one in STOPPING with its kept frame open back to CAPTURING, and leaves any other. QUIET while
QUIET and WAKE while ACTIVE change nothing. -/
def Obligations.QuietAndWake : Prop :=
  (∀ s : State, s.shaped → s.port.quiet = false → ∃ t, exec .quiet s = .next t ∧
    t.port = { s.port with quiet := true } ∧
    (let drops := s.capture.askedOn = true ∧ s.capture.hold = false
     let zero := { s.notice with counts := List.replicate 8 0 }
     let once := (setFlag .cameraChange { s with notice := zero }).notice
     let kept := { s.capture with
       publications := 0, whole := 0, spoiled := 0, ignored := 0, suspectLines := 0, missingLines := 0
       overruns := 0, losses := 0, loads := 0 }
     let counts := { s.reverse with engagements := 0, unavailables := 0, expiries := 0 }
     (¬drops ∨ s.capture.state = .off ∨ s.capture.state = .stopping →
       t.capture = kept ∧ t.notice = zero ∧ t.reverse = counts) ∧
     (drops → s.capture.state = .setup → s.capture.i2c ≠ none →
       t.capture = { kept with dropWaits := true } ∧ t.notice = zero ∧ t.reverse = counts) ∧
     (drops → s.capture.state = .capturing → s.capture.frames ≠ [] →
       t.capture = { kept with
         state := .stopping
         openFrame := if s.capture.openKept then s.capture.openFrame else .none
         lossTimer := if s.capture.openKept then s.capture.lossTimer else none } ∧
       t.notice = once ∧ t.reverse = counts) ∧
     (drops → (s.capture.state = .powering ∨ s.capture.state = .armed ∨ s.capture.state = .lost ∨
         s.capture.state = .fault ∨ (s.capture.state = .capturing ∧ s.capture.frames = []) ∨
         (s.capture.state = .setup ∧ s.capture.i2c = none)) →
       t.capture = { kept with
         state := .off
         settleTimer := none, stepTimer := none, lossTimer := none, i2c := none, dropWaits := false
         openFrame := .none, published := none, history := List.replicate 8 .empty, poor := false
         frames := t.capture.frames, buffer := t.capture.buffer } ∧ t.camPwr = false ∧
       t.notice = (if s.capture.poor then (setFlag .cameraChange { s with notice := once }).notice else once) ∧
       t.reverse = { counts with delivered := false })) ∧
    t.arbiter = { s.arbiter with faults := ⟨0, 0, 0, 0, 0, 0, 0⟩, total := 0 } ∧
    t.poller.frameErrors = ⟨0, 0⟩ ∧ t.poller.soundErrors = ⟨0, 0⟩ ∧
    (∀ d, (t.composer d).entryBad = 0 ∧ (t.composer d).refusals = 0 ∧ (t.composer d).lateFrames = 0 ∧
      (t.composer d).shown = (s.composer d).shown) ∧
    (∀ st, t.stream st = { s.stream st with
      dropped := 0, badFrames := 0, badSounds := 0, underruns := 0, starves := 0, misses := 0 }) ∧
    t.guide = { s.guide with samplesTaken := 0, staleCount := 0, completed := 0, abandoned := 0 } ∧
    (t.mixer.clips = ⟨0, 0, 0⟩ ∧ t.mixer.refusals = 0 ∧ t.mixer.quietMute = true ∧ (∀ r, (t.route r).target = 0) ∧
      t.mixer.taken = s.mixer.taken) ∧
    t.chime = { s.chime with
      finished := 0, stopped := 0, suppressed := 0, refused := 0, returns := 0, clipMisses := 0, droppedRequests := 0 } ∧
    t.poller.slots = s.poller.slots ∧ t.readOrder = s.readOrder ∧
    t.notice.mask = s.notice.mask ∧ t.notice.lastFault = s.notice.lastFault ∧
    (∀ a, t.memory.read a = s.memory.read a)) ∧
  (∀ s : State, s.port.quiet = true → ∃ t, exec .wake s = .next t ∧
    t.port = { s.port with quiet := false } ∧ t.mixer = { s.mixer with wakeMark := s.mixer.quietMute } ∧
    t.poller.slots = s.poller.slots ∧ t.composers = s.composers ∧ t.film = s.film ∧ t.chime = s.chime ∧
    (s.capture.askedOn = true → s.capture.hold = false → s.capture.state = .off →
      t.capture = { s.capture with state := .powering, settleTimer := some 2400 } ∧
      t.notice = (setFlag .cameraChange s).notice) ∧
    (s.capture.askedOn = true → s.capture.hold = false → s.capture.state = .stopping → s.capture.openKept = true →
      t.capture = { s.capture with state := .capturing } ∧ t.notice = (setFlag .cameraChange s).notice) ∧
    (s.capture.askedOn = false ∨ s.capture.hold = true ∨ (s.capture.state ≠ .off ∧
      (s.capture.state = .stopping → s.capture.openKept = false)) → t.capture = s.capture ∧ t.notice = s.notice) ∧
    t.reverse = s.reverse ∧ t.guide = s.guide ∧
    (∀ a, t.memory.read a = s.memory.read a)) ∧
  (∀ s : State, s.port.quiet = true → AnswersNext .quiet s s) ∧
  (∀ s : State, s.port.quiet = false → AnswersNext .wake s s)

/-- Cold start: every block at its reset state; a REVERSE_IN held ENGAGED is debounced from there, 20 ms being 960
sample periods (R144). Host memory, the commands that wait, the tags already used and the raw level of the line are
not what a cold start clears: the model's readings and choice (log 3, log 6, log 4, log 11). A link reset (R185, R196,
R175, R26): DETACHED, ACTIVE, result NONE, base 0, attach count and block count kept; CAUSE, MASK and the message mark
clear, the last area fault record kept; every block forgets what DETACH makes it forget; no request of the poller, the audio fetcher, a composer or twin fetch waits,
none is outstanding, and a write already issued is still sent (R71, R181); that a read on the path is not is the
model's reading (log 28); the rear pointer at REAR_L; every quality level FULL, every lateness history EMPTY and the
user blanks clear; the quiet mute clear; the debounced level kept. -/
def Obligations.Resets : Prop :=
  (∀ s : State, exec .coldStart s = .next { State.reset with
      arbiter := { State.reset.arbiter with nextTag := s.arbiter.nextTag }
      reverse := { State.reset.reverse with
        raw := s.reverse.raw
        debounce := if s.reverse.raw then some 960 else none }
      memory := s.memory
      pending := s.pending }) ∧
  (∀ s : State, ∃ t, exec .linkReset s = .next t ∧
      t.port = { s.port with attached := false, quiet := false, attachResult := .none, areaLo := 0, areaHi := 0 } ∧
      Forgets s t ∧
      t.notice.cause = 0 ∧ t.notice.mask = 0 ∧ t.notice.message = false ∧ t.notice.lastFault = s.notice.lastFault ∧
      (∀ i, s.arbiter.path = some i → t.arbiter.path = if i.request.isRead then none else some { i with live := false }) ∧
      (s.arbiter.path = none → t.arbiter.path = none) ∧ t.arbiter.outstanding = [] ∧ t.arbiter.rearTurn = .rearL ∧
      t.arbiter.total = s.arbiter.total ∧ t.poller.order = [] ∧ t.audio.queue = [] ∧
      (∀ d, (t.composer d).level = .full ∧ (t.composer d).held = none ∧ (t.composer d).userBlank = false ∧
        (t.composer d).history = List.replicate 8 .empty) ∧
      t.mixer.quietMute = false ∧ t.mixer.wakeMark = false ∧ (∀ a ∈ t.poller.slots, a.reading = none) ∧
      (∀ a, t.memory.read a = s.memory.read a))

/-! ## The ask board and the composers (9.7, chapter 1) -/

/-- What taking an ask does (R187, R188): its sequence becomes the slot's last taken and answered one, no ask is in
reading, the answer record holds the result and the block count, and a result that is decided sets ASK_ANSWERED; the
other slots and everything else stay. That a take without a decided result writes the block count too is the model's
reading (log 18). An ask that its slot does not take changes nothing: while DETACHED, with an ask of the slot in
reading or a MIXER_SET waiting for its DONE, now or at the block end that made the read which hands it, or with the
sequence last taken. -/
def Obligations.AskIsAnswered : Prop :=
  (∀ (n : Nat) (q : Word) (r : AskResult) (s : State), s.shaped → n < 12 →
      (takeAsk n q r s).slot n = ⟨q, none, q, r, s.port.blockCount⟩ ∧
      (∀ k, k ≠ n → (takeAsk n q r s).slot k = s.slot k) ∧
      (r = .empty → (takeAsk n q r s).notice = s.notice) ∧
      (r ≠ .empty → (takeAsk n q r s).notice = (setFlag .askAnswered s).notice) ∧
      { takeAsk n q r s with
        notice := s.notice
        poller := { (takeAsk n q r s).poller with slots := s.poller.slots } } = s) ∧
  ((∀ (st : Stream) (q : Word) (p : List Word) (s : State), ¬s.mayTake (streamSlot st) q →
      AnswersNext (.streamPlay st q p) s s ∧ AnswersNext (.streamPause st q p) s s ∧
      AnswersNext (.streamStop st q p) s s) ∧
    (∀ (d : Display) (q : Word) (p : List Word) (s : State), ¬s.mayTake (displaySlot d) q →
      AnswersNext (.displayTiming d q p) s s ∧ AnswersNext (.displayBlank d q p) s s ∧
      AnswersNext (.displayShow d q p) s s) ∧
    (∀ (q : Word) (p : List Word) (s : State), ¬s.mayTake cameraSlot q →
      AnswersNext (.cameraOn q p) s s ∧ AnswersNext (.cameraOff q p) s s ∧ AnswersNext (.cameraLoad q p) s s) ∧
    (∀ (q : Word) (p : List Word) (s : State), ¬s.mayTake mixerSlot q → AnswersNext (.mixerSet q p) s s))

/-- The ask board (R187): each of the two requests hands its slots' asks in slot order. An ask that its slot takes
acts as the ask command of the slot and the code does, and one with a code its owner does not know (R27, R74) is
answered REFUSED_FIELD, in a stream's slot after a waiting PLAY has been superseded (R28); one that its slot does not
take does nothing. A spare slot's code 0 is answered DONE, any other REFUSED_FIELD; a spare ask in a slot with an
owner is ill-formed and stops (the model's choice, log 15). -/
def Obligations.AskBoardAndSpareSlots : Prop :=
  (∀ (s : State) (tag : Nat) (i : Issued) (bytes : List Byte), s.awaits tag i (.askBoard false) 256 →
    bytes.length = 256 → AnswersNext (.askBoardReadDone tag (.data bytes)) s
      ([0, 1, 2, 3, 4, 5, 6, 7].foldl (fun u n => handAsk n (askAt bytes (32 * n)) u) (s.readEnded i))) ∧
  (∀ (s : State) (tag : Nat) (i : Issued) (bytes : List Byte), s.awaits tag i (.askBoard true) 128 →
    bytes.length = 128 → AnswersNext (.askBoardReadDone tag (.data bytes)) s
      ([8, 9, 10, 11].foldl (fun u n => handAsk n (askAt bytes (32 * (n - 8))) u) (s.readEnded i))) ∧
  (∀ (bytes : List Byte) (o : Nat), askAt bytes o = ⟨wordAt bytes o, wordAt bytes (o + 4),
    (List.range 6).map fun k => wordAt bytes (o + 8 + 4 * k)⟩) ∧
  (streamSlot .f0 = 0 ∧ streamSlot .f1 = 1 ∧ cameraSlot = 2 ∧ displaySlot .front = 3 ∧ displaySlot .rearL = 4 ∧
    displaySlot .rearR = 5 ∧ mixerSlot = 6 ∧ displayIndex .front = 0 ∧ displayIndex .rearL = 1 ∧
    displayIndex .rearR = 2) ∧
  (∀ (a : Ask) (s : State),
    let acts (n : Nat) (code : Word) (c : Instr) : Prop := a.code = code → AnswersNext c s (handAsk n a s)
    let refused (n : Nat) (u : State) : Prop := SameButWrites (handAsk n a s) (takeAsk n a.sequence .refusedField u)
    (∀ st, acts (streamSlot st) 1 (.streamPlay st a.sequence a.params) ∧
      acts (streamSlot st) 2 (.streamPause st a.sequence a.params) ∧
      acts (streamSlot st) 3 (.streamStop st a.sequence a.params) ∧
      (s.mayTake (streamSlot st) a.sequence → a.code ∉ [1, 2, 3] → refused (streamSlot st)
        (match (s.stream st).waitingPlay with
          | none => s
          | some first => writeResult (streamSlot st) .superseded (s.onStream st fun f => { f with
              superseded := some first, waitingPlay := none, state := .stopped, clock := 0, startPts := none })))) ∧
    (acts 2 0x10 (.cameraLoad a.sequence a.params) ∧ acts 2 0x11 (.cameraOn a.sequence a.params) ∧
      acts 2 0x12 (.cameraOff a.sequence a.params) ∧
      (s.mayTake 2 a.sequence → a.code ∉ [0x10, 0x11, 0x12] → refused 2 s)) ∧
    (∀ d, acts (displaySlot d) 0x20 (.displayTiming d a.sequence a.params) ∧
      acts (displaySlot d) 0x21 (.displayBlank d a.sequence a.params) ∧
      acts (displaySlot d) 0x22 (.displayShow d a.sequence a.params) ∧
      (s.mayTake (displaySlot d) a.sequence → a.code ∉ [0x20, 0x21, 0x22] → refused (displaySlot d) s)) ∧
    (acts 6 0x30 (.mixerSet a.sequence a.params) ∧ (s.mayTake 6 a.sequence → a.code ≠ 0x30 → refused 6 s)) ∧
    (∀ n, 7 ≤ n → n < 12 → acts n a.code (.spareAsk n a.sequence a.code a.params)) ∧
    (∀ n, ¬s.mayTake n a.sequence → handAsk n a s = s)) ∧
  (∀ (n : Nat) (q code : Word) (p : List Word) (s : State), 7 ≤ n → n < 12 → s.mayTake n q →
    AnswersNext (.spareAsk n q code p) s (takeAsk n q (if code = 0 then .done else .refusedField) s)) ∧
  (∀ (n : Nat) (q code : Word) (p : List Word) (s : State), 7 ≤ n → n < 12 → ¬s.mayTake n q →
    AnswersNext (.spareAsk n q code p) s s) ∧
  (∀ (n : Nat) (q code : Word) (p : List Word) (s : State), (n < 7 ∨ 12 ≤ n) →
    exec (.spareAsk n q code p) s = .fault .illFormed)

/-- DISPLAY_BLANK and DISPLAY_SHOW (R6): the user blank is set or cleared and the ask answered DONE, also when it has
the asked value already. The asks that read a record first (R3, R75, R117): the ask is in reading and its record's
reads are made, DISPLAY_TIMING of 16 bytes at 0x0800 + 0x100 x display, MIXER_SET of 16 at 0x0400, and CAMERA_LOAD in
OFF of 48 at 0x0600, 52 at 0x0700 and 256 at 0x5000 (the number and size of the reads are the model's reading, log
16); CAMERA_LOAD outside OFF is answered REFUSED_STATE. A nonzero parameter word in any of them is answered
REFUSED_FIELD. -/
def Obligations.DisplayMixerAndLoadAsks : Prop :=
  (∀ (d : Display) (q : Word) (p : List Word) (s : State), s.mayTake (displaySlot d) q →
      (noParams p →
        AnswersNext (.displayBlank d q p) s
          (takeAsk (displaySlot d) q .done (s.onComposer d fun c => { c with userBlank := true })) ∧
        AnswersNext (.displayShow d q p) s
          (takeAsk (displaySlot d) q .done (s.onComposer d fun c => { c with userBlank := false }))) ∧
      (¬noParams p →
        AnswersNext (.displayBlank d q p) s (takeAsk (displaySlot d) q .refusedField s) ∧
        AnswersNext (.displayShow d q p) s (takeAsk (displaySlot d) q .refusedField s))) ∧
  ((∀ (d : Display) (q : Word) (p : List Word) (s : State), s.mayTake (displaySlot d) q →
      (noParams p → AnswersNext (.displayTiming d q p) s { s with poller := { s.poller with
        slots := setAt s.poller.slots (displaySlot d) fun x => { x with reading := some q }
        order := s.poller.order ++
          [⟨.poller, s.areaAddr (0x800 + 0x100 * displayIndex d), .read (.timing d) 16⟩] } }) ∧
      (¬noParams p → AnswersNext (.displayTiming d q p) s (takeAsk (displaySlot d) q .refusedField s))) ∧
    (∀ (q : Word) (p : List Word) (s : State), s.mayTake mixerSlot q →
      (noParams p → AnswersNext (.mixerSet q p) s { s with poller := { s.poller with
        slots := setAt s.poller.slots mixerSlot fun x => { x with reading := some q }
        order := s.poller.order ++ [⟨.poller, s.areaAddr 0x400, .read .mixerSet 16⟩] } }) ∧
      (¬noParams p → AnswersNext (.mixerSet q p) s (takeAsk mixerSlot q .refusedField s))) ∧
    (∀ (q : Word) (p : List Word) (s : State), s.mayTake cameraSlot q →
      (noParams p → s.capture.state = .off → AnswersNext (.cameraLoad q p) s { s with
        capture := { s.capture with load := some ⟨none, none, [], false⟩, loadSerial := s.capture.loadSerial + 1 }
        poller := { s.poller with
          slots := setAt s.poller.slots cameraSlot fun x => { x with reading := some q }
          order := s.poller.order ++
            [⟨.poller, s.areaAddr 0x600, .read (.cameraRecord (s.capture.loadSerial + 1)) 48⟩,
             ⟨.poller, s.areaAddr 0x700, .read (.geometryRecord (s.capture.loadSerial + 1)) 52⟩,
             ⟨.poller, s.areaAddr 0x5000, .read (.script (s.capture.loadSerial + 1) 0) 256⟩] } }) ∧
      (noParams p → s.capture.state ≠ .off → AnswersNext (.cameraLoad q p) s (takeAsk cameraSlot q .refusedState s)) ∧
      (¬noParams p → AnswersNext (.cameraLoad q p) s (takeAsk cameraSlot q .refusedField s))))

/-- The record of a DISPLAY_TIMING has been read (R2, R3, R162): a bad timing is answered REFUSED_FIELD and changes no
timing; for FRONT outside NORMAL a good one is answered REFUSED_STATE; otherwise it becomes the waiting timing, in
place of one that waits, and the ask is answered DONE. The waiting timing is spelled from the record (11.3): the active
size at 0 and 2, the total size at 4 and 6, the divider code at 8, the pair mark at 9 and the lead at 12, each number
of several bytes low byte first (R197). A read that ends with a fault gives the ask up untaken (R187):
its slot and every timing stay as they were. -/
def Obligations.TimingRecordRead : Prop :=
  (∀ (d : Display) (bytes : List Byte), timingValid d bytes = true ↔
    ((byteAt bytes 8).toNat ≤ 15 ∧
     16 ≤ (halfAt bytes 0).toNat ∧ (halfAt bytes 0).toNat ≤ 1920 ∧
     16 ≤ (halfAt bytes 2).toNat ∧ (halfAt bytes 2).toNat ≤ 1080 ∧
     (halfAt bytes 0).toNat + 16 ≤ (halfAt bytes 4).toNat ∧ (halfAt bytes 2).toNat + 16 ≤ (halfAt bytes 6).toNat ∧
     (halfAt bytes 4).toNat ≤ 4095 ∧ (halfAt bytes 6).toNat ≤ 4095 ∧ (wordAt bytes 12).toNat ≤ 4800 ∧
     (byteAt bytes 9).toNat ≤ (if d = .rearR then 1 else 0))) ∧
  (∀ (s : State) (tag : Nat) (i : Issued) (d : Display) (q : Word) (bytes : List Byte),
    s.awaits tag i (.timing d) 16 → bytes.length = 16 → (s.slot (displaySlot d)).reading = some q →
    let timing : Timing :=
      { activeW := (halfAt bytes 0).toNat, activeH := (halfAt bytes 2).toNat, totalW := (halfAt bytes 4).toNat
        totalH := (halfAt bytes 6).toNat, divider := (byteAt bytes 8).toNat, lead := (wordAt bytes 12).toNat
        pair := byteAt bytes 9 == 1 }
    (timingValid d bytes = false → AnswersNext (.timingRecordReadDone tag (.data bytes)) s
      (takeAsk (displaySlot d) q .refusedField (s.readEnded i))) ∧
    (timingValid d bytes = true → d = .front → s.frontView.mode ≠ .normal →
      AnswersNext (.timingRecordReadDone tag (.data bytes)) s
        (takeAsk (displaySlot d) q .refusedState (s.readEnded i))) ∧
    (timingValid d bytes = true → (d ≠ .front ∨ s.frontView.mode = .normal) →
      AnswersNext (.timingRecordReadDone tag (.data bytes)) s
        (takeAsk (displaySlot d) q .done ((s.readEnded i).onComposer d fun c =>
          { c with waiting := some timing })))) ∧
  (∀ (bytes : List Byte) (o : Nat),
    let number (n : Nat) : Nat := (List.range n).foldr (fun j a => (byteAt bytes (o + j)).toNat + 256 * a) 0
    byteAt bytes o = bytes.getD o 0 ∧ (halfAt bytes o).toNat = number 2 ∧ (wordAt bytes o).toNat = number 4 ∧
    (addrAt bytes o).toNat = number 8) ∧
  (∀ (s : State) (tag : Nat) (i : Issued) (d : Display), s.shaped → s.awaits tag i (.timing d) 16 →
    s.arbiter.consecutive.get i.request.client < 15 → ∃ t, exec (.timingRecordReadDone tag .error) s = .next t ∧
      t.slot (displaySlot d) = { s.slot (displaySlot d) with reading := none } ∧ t.composers = s.composers ∧
      (∀ n, n ≠ displaySlot d → t.slot n = s.slot n) ∧ t.arbiter.total = s.arbiter.total + 1 ∧ t.port = s.port)

/-- A select word has been read (R7): the last taken word changes nothing but the poller's copy; another with a bank
that is neither A nor B is refused with SELECT, any candidate discarded; another begins a new candidate, whose first
read is of its bank's entry count alone (the model's reading of R8, log 16). That the area fault record names the
display by its number is the model's choice (log 61). -/
def Obligations.SelectWordRead : Prop :=
  ∀ (s : State) (tag : Nat) (i : Issued) (d : Display) (bytes : List Byte),
    s.awaits tag i (.select d) 8 → bytes.length = 8 →
    let bank := wordAt bytes 0
    let count := wordAt bytes 4
    let u := onCopies (fun c => { c with select := c.select.update d fun _ => some bytes }) (s.readEnded i)
    let n := (s.composer d).candidateSerial + 1
    ((s.composer d).lastSelect = some (bank, count) →
      AnswersNext (.selectWordReadDone tag (.data bytes)) s u) ∧
    ((s.composer d).lastSelect ≠ some (bank, count) → 2 ≤ bank.toNat →
      AnswersNext (.selectWordReadDone tag (.data bytes)) s
        (areaFault .select (wordOfNat (displayIndex d)) (u.onComposer d fun c =>
          { c with lastSelect := some (bank, count), candidate := .none, bankFault := .select }))) ∧
    ((s.composer d).lastSelect ≠ some (bank, count) → bank.toNat < 2 →
      AnswersNext (.selectWordReadDone tag (.data bytes)) s
        (makeRead (.bankCount d n)
          (s.areaAddr (0x1000 + 0x800 * displayIndex d + 0x400 * bank.toNat)) 4
          (u.onComposer d fun c => { c with
            lastSelect := some (bank, count)
            candidateSerial := n
            candidate := .reading n (if bank = 0 then .a else .b) count none [] })))

/-- What a composer fetches and how it is split (R20, R24, R166). A run of bytes is split into requests which together
cover it in ascending order without a gap, each of 1 to 256 bytes, none crossing a 256-byte aligned boundary. The
fetches planned for a frame are of the rows its lines need of the layers with fetched pixels, each row of a layer
once, no later than the first line that needs it, and in the order of these lines; that the rows of one line go by
layer and then by row is the model's choice (log 55). Those of a shared film layer are the rows the lines on either
display need, each once, in ascending order, which is the model's choice where the two positions differ (log 68). A line of a layer needs the rows its taps reach, lowest first, those of
weight 0 among them (the model's reading, log 23). The request that a client presents is spelled: of a composer the
first 256-byte run of the next row of its plan, at the source's address by row and pitch, once the row's line is near
enough to the next one (how near is a free value, log 2); of the twin fetch the same of the shared card; of the store
writer the next burst of the oldest line it is to write, at its frame's store by row and pitch, PACKED16 as received
and WIDE32 as two pixels of V, U, Y and 255 for each pair (R69); of the audio fetcher and the poller the oldest that
waits (R170). -/
def Obligations.RequestSplitting : Prop :=
  (∀ (a : Addr) (n : Nat), ((requestsOf a n).map (·.2)).sum = n ∧
    ∀ (k : Nat) (r : Addr × Nat), (requestsOf a n)[k]? = some r →
      r.1 = a + BitVec.ofNat 64 (((requestsOf a n).take k).map (·.2)).sum ∧ 1 ≤ r.2 ∧ r.1.toNat % 256 + r.2 ≤ 256) ∧
  (∀ (level : Level) (height : Nat) (layers : List Layer), (∀ l ∈ layers, 0 ≤ l.clip.y) →
    let plan := framePlan level height layers
    let needs (n : Nat) (y : Int) (r : Nat) : Prop := ∃ l p, layers[n]? = some l ∧ l.source.pixels = some p ∧
      r ∈ l.needs level p.sh y
    (∀ x ∈ plan, x.offset = 0 ∧ 0 ≤ x.line ∧ x.line < height ∧ needs x.layer x.line x.row) ∧
    (∀ (n : Nat) (y r : Nat), y < height → needs n y r → ∃ x ∈ plan, x.layer = n ∧ x.row = r ∧ x.line ≤ y) ∧
    (plan.Pairwise fun a b => ¬(a.layer = b.layer ∧ a.row = b.row) ∧
      (a.line < b.line ∨ (a.line = b.line ∧ (a.layer < b.layer ∨ (a.layer = b.layer ∧ a.row < b.row)))))) ∧
  (∀ (level : Level) (size : Nat) (dest : Rect) (lines : List Nat), lines.Pairwise (· < ·) →
    let plan := twinPlan level size dest 0 lines
    (∀ x ∈ plan, x.offset = 0 ∧ ∃ k ∈ lines, x.line = k ∧ x.row ∈ tapRows level size dest (dest.y + k)) ∧
    (∀ k ∈ lines, ∀ r ∈ tapRows level size dest (dest.y + k), ∃ x ∈ plan, x.row = r ∧ x.line ≤ k) ∧
    (plan.Pairwise fun a b => a.row < b.row ∧ a.line ≤ b.line)) ∧
  (∀ (l : Layer) (level : Level) (size : Nat) (y : Int),
    let reached := (taps level size l.dest.h (y - l.dest.y).toNat).map (·.1)
    (∀ r, r ∈ l.needs level size y ↔ (l.dropped = false ∧ l.clip.y ≤ y ∧ y < l.clip.y + l.clip.h ∧ r ∈ reached)) ∧
    (l.needs level size y).Pairwise (· < ·)) ∧
  (∀ s : State,
    let row (c : Client) (p : Pixels) (x : RowFetch) (what : ReadOf) : Request :=
      let addr := p.addr + BitVec.ofNat 64 ((p.sy + x.row) * p.pitch + p.sx * p.format.size + x.offset)
      ⟨c, addr, .read what (min (p.sw * p.format.size - x.offset) (256 - addr.toNat % 256))⟩
    let at_ (c : Composer) : Int := match c.frame with
      | some f => f.nextLine
      | none => s.composers.rearL.timing.activeH
    (∀ d, (∀ f, (s.composer d).frame = some f → f.plan = []) → waitingRequest s (displayClient d) = none) ∧
    (∀ d f x rest l p, (s.composer d).frame = some f → f.plan = x :: rest → f.layers[x.layer]? = some l →
      l.source.pixels = some p → waitingRequest s (displayClient d) =
        if x.line ≤ f.nextLine + Config.fetchAheadLines then
          some (row (displayClient d) p x (.layerRow d f.serial x.layer x.row x.offset))
        else none) ∧
    (s.twin.inUse = false ∨ s.twin.plan = [] → waitingRequest s .twin = none) ∧
    (∀ x rest, s.twin.inUse = true → s.twin.plan = x :: rest → waitingRequest s .twin =
      if x.line ≤ at_ s.composers.rearL - s.twin.topL + Config.fetchAheadLines ∨
          x.line ≤ at_ s.composers.rearR - s.twin.topR + Config.fetchAheadLines then
        some (row .twin s.twin.pixels x (.twinRow s.twin.serial x.row x.offset))
      else none) ∧
    ((∀ l ∈ s.capture.buffer, l.forWriter = false) → waitingRequest s .storeWriter = none) ∧
    (∀ before l after f st n, s.capture.buffer = before ++ l :: after → (∀ b ∈ before, b.forWriter = false) →
      l.forWriter = true → s.capture.frames.find? (fun x => x.id == l.frame) = some f → f.record.stores = some st →
      f.target = some n →
      let bytes := storedBytes f.record.wide l.payload
      let pitch := f.record.width * (if f.record.wide then 4 else 2)
      let addr := (if n = 0 then st.s0 else if n = 1 then st.s1 else st.s2) +
        BitVec.ofNat 64 (l.row * pitch + l.issued)
      (l.issued < bytes.length → waitingRequest s .storeWriter = some ⟨.storeWriter, addr,
        .store l.frame l.row ((bytes.drop l.issued).take (256 - addr.toNat % 256))⟩) ∧
      (bytes.length ≤ l.issued → waitingRequest s .storeWriter = none)) ∧
    waitingRequest s .audio = s.audio.queue.head? ∧ waitingRequest s .poller = s.poller.order.head?) ∧
  (∀ (payload : List Byte) (y0 u y1 v : Byte), storedBytes false payload = payload ∧ storedBytes true [] = [] ∧
    storedBytes true (y0 :: u :: y1 :: v :: payload) = [v, u, y0, 255, v, u, y1, 255] ++ storedBytes true payload)


/-- The reads of a candidate (R8, R11, R12, R13, R198). An entry count above 8 refuses it with COUNT, a fault of the
count read or of an entry read with READ (at the first fault, log 43), each counted and with AREA_FAULT, whose record
names the display by its number (the model's choice, log 61); a count of 0
leaves nothing to read, and any other makes the reads of the counted entries, of 64 bytes each from byte 64 of the
bank: reading the count first and then only those is the model's reading (log 16). Once all their bytes are there the
candidate waits with its entries checked. What makes an entry bad is spelled kind by kind: nothing inside the active
area, w or h beyond 4096 (also of a NONE entry, log 8), an unknown kind, a CAMERA entry on a rear display, a FILM
entry's stream or fit beyond 1, and a PICTURE's format, size, alignment, pitch, YUYV parity and scale limits. An entry is
read from its 64 bytes field by field (11.3): the kind code, z, x and y of 3 and 13 bits, the opacity, w and h, the bytes
of a FILL colour, the address, pitch, format and source rectangle of a PICTURE, and the stream and fit of a FILM entry,
each at its offset and little-endian. The bytes of the requests are put together by their offsets. -/
def Obligations.BankRead : Prop :=
  (∀ (s : State) (tag : Nat) (i : Issued) (d : Display) (n : Nat) (bk : Bank) (count : Word) (size : Option Nat)
    (got : List (Nat × List Byte)), (s.composer d).candidate = .reading n bk count size got →
    let start := s.areaAddr (0x1000 + 0x800 * displayIndex d + (match bk with | .a => 0 | .b => 0x400) + 0x40)
    let area : Rect := ⟨0, 0, (s.timing d).activeW, (s.timing d).activeH⟩
    (∀ bytes : List Byte, s.awaits tag i (.bankCount d n) 4 → bytes.length = 4 →
      let entries := (wordAt bytes 0).toNat
      (8 < entries → AnswersNext (.bankReadDone tag (.data bytes)) s
        (areaFault .bankCount (wordOfNat (displayIndex d)) ((s.readEnded i).onComposer d fun c =>
          { c with candidate := .none, bankFault := .count, refusals := c.refusals + 1 }))) ∧
      (entries = 0 → AnswersNext (.bankReadDone tag (.data bytes)) s
        ((s.readEnded i).onComposer d fun c => { c with candidate := .waiting ⟨bk, count, []⟩ })) ∧
      (1 ≤ entries → entries ≤ 8 → AnswersNext (.bankReadDone tag (.data bytes)) s
        (((s.readEnded i).onComposer d fun c => { c with candidate := .reading n bk count (some entries) [] }).onPoller
          fun p => { p with order := p.order ++ (requestsOf start (64 * entries)).map fun r =>
            ⟨.poller, r.1, .read (.bankEntries d n (r.1 - start).toNat) r.2⟩ }))) ∧
    (∀ (offset length entries : Nat) (bytes : List Byte), s.awaits tag i (.bankEntries d n offset) length →
      bytes.length = length → size = some entries →
      let all := insertRun offset bytes got
      (64 * entries ≤ (runBytes all).length → AnswersNext (.bankReadDone tag (.data bytes)) s
        ((s.readEnded i).onComposer d fun c =>
          { c with candidate := .waiting ⟨bk, count, checkedEntries d area (runBytes all) entries⟩ })) ∧
      ((runBytes all).length < 64 * entries → AnswersNext (.bankReadDone tag (.data bytes)) s
        ((s.readEnded i).onComposer d fun c => { c with candidate := .reading n bk count size all }))) ∧
    ((s.awaits tag i (.bankCount d n) 4 ∨ ∃ offset length, s.awaits tag i (.bankEntries d n offset) length) →
      s.arbiter.consecutive.get i.request.client < 15 →
      ∃ t, exec (.bankReadDone tag .error) s = .next t ∧ (t.composer d).candidate = .none ∧
        (t.composer d).bankFault = .read ∧ (t.composer d).refusals = (s.composer d).refusals + 1 ∧
        (t.composer d).shown = (s.composer d).shown ∧ (t.composer d).lastSelect = (s.composer d).lastSelect ∧
        t.notice.lastFault = some ⟨.bankRead, wordOfNat (displayIndex d), s.port.blockCount⟩)) ∧
  (∀ (d : Display) (a : Rect) (e : Entry),
    let large := 4096 < e.rect.w ∨ 4096 < e.rect.h
    let seen := max e.rect.x a.x < min (e.rect.x + e.rect.w) (a.x + a.w) ∧
      max e.rect.y a.y < min (e.rect.y + e.rect.h) (a.y + a.h)
    let scale (size dest : Nat) := size ≤ 4 * dest ∧ dest ≤ 8 * size
    (entryIsBad d a e = true ↔ match e.body with
      | .none => large
      | .fill _ _ _ _ => ¬seen ∨ large
      | .picture addr pitch f sx _ sw sh => ¬seen ∨ large ∨ 3 ≤ f.toNat ∨ sw = 0 ∨ sh = 0 ∨ addr.toNat % 4 ≠ 0 ∨
          pitch.toNat % 4 ≠ 0 ∨ pitch.toNat < (sx.toNat + sw.toNat) * (if f = 0 then 4 else 2) ∨
          (f = 2 ∧ (sx.toNat % 2 = 1 ∨ sw.toNat % 2 = 1)) ∨ ¬scale sw.toNat e.rect.w ∨ ¬scale sh.toNat e.rect.h
      | .film st fit => ¬seen ∨ large ∨ 2 ≤ st.toNat ∨ 2 ≤ fit.toNat
      | .camera => d ≠ .front
      | .unknown _ => True)) ∧
  (∀ (bytes : List Byte) (o : Nat),
    let place (h : Half) : Int := if h.toNat % 8192 < 4096 then (h.toNat % 8192 : Nat) else (h.toNat % 8192 : Nat) - 8192
    let b (k : Nat) : Byte := byteAt bytes (o + k)
    let number (k n : Nat) : Nat := (List.range n).foldr (fun j a => (b (k + j)).toNat + 256 * a) 0
    let e := entryAt bytes o
    e.z = (b 1).toNat % 8 ∧ e.opacity = (b 2).toNat ∧ e.bad = false ∧
    e.rect.x = place (halfAt bytes (o + 4)) ∧ e.rect.y = place (halfAt bytes (o + 6)) ∧
    e.rect.w = number 8 2 ∧ e.rect.h = number 10 2 ∧ (halfAt bytes (o + 4)).toNat = number 4 2 ∧
    (halfAt bytes (o + 6)).toNat = number 6 2 ∧
    (b 0 = 0 → e.body = .none) ∧
    (b 0 = 1 → ∃ alpha red green blue, e.body = .fill alpha red green blue ∧
      blue = b 0x0C ∧ green = b 0x0D ∧ red = b 0x0E ∧ alpha = b 0x0F) ∧
    (b 0 = 2 → ∃ addr pitch format sx sy sw sh, e.body = .picture addr pitch format sx sy sw sh ∧
      addr.toNat = number 0x10 8 ∧ pitch.toNat = number 0x18 4 ∧ format = b 0x1C ∧ sx.toNat = number 0x20 2 ∧
      sy.toNat = number 0x22 2 ∧ sw.toNat = number 0x24 2 ∧ sh.toNat = number 0x26 2) ∧
    (b 0 = 3 → ∃ stream fit, e.body = .film stream fit ∧ stream = b 0x10 ∧ fit = b 0x11) ∧
    (b 0 = 4 → e.body = .camera) ∧
    (5 ≤ (b 0).toNat → e.body = .unknown (b 0))) ∧
  (∀ (off : Nat) (bytes : List Byte) (l : List (Nat × List Byte)), runBytes l = (l.map fun x => x.2).flatten ∧
    (insertRun off bytes l).Perm ((off, bytes) :: l) ∧
    (l.Pairwise (fun a b => a.1 ≤ b.1) → (insertRun off bytes l).Pairwise fun a b => a.1 ≤ b.1)) ∧
  (∀ (d : Display) (a : Rect) (bytes : List Byte) (n : Nat), (checkedEntries d a bytes n).length = n ∧
    ∀ p, p < n → (checkedEntries d a bytes n)[p]? =
      some { entryAt bytes (64 * p) with bad := entryIsBad d a (entryAt bytes (64 * p)) })

/-- A frame start of a rear display (R3, R4, R5, R9, R23, R24, R43 to R47, R186). Unpaired: the waiting timing is
current and the frame a restart frame, the waiting candidate latched, and the frame blank exactly when the user blank
is set, the activity is QUIET, the frame is a restart frame or the part DETACHED; a blank frame has no layer, any
other the layers of NORMAL. While ATTACHED the select word and both frame lists' posted counts are being read. Of each
stream it shows, a PLAYING one's card is selected by the clock and the display's lead, with an underrun counted when
the last card posted has run out; a PAUSED or STARVED one keeps its card or selects one; any other card is given up;
then frame cards are released once. A pairing that begins stops REAR_R at the frame start that takes its timing, where
the pair is made and no frame begun (the model's reading of R4, log 22); a paired REAR_R has no frame start of its
own, and at REAR_L's both latch, take their cards and begin a frame of REAR_L's size, unless a waiting timing takes
REAR_R out of the pair. Twin fetch is in use in a paired frame exactly under the conditions of R23, where a card that
a PAUSED or STARVED stream keeps counts as selected (the model's choice, log 63); then the lower of both levels is
held on both and the shared card is read once, its rows in ascending order also where the two positions differ (the
model's choice, log 68). -/
def Obligations.RearFrameStart : Prop :=
  ((∀ (d : Display) (s : State), s.paired = false →
      (d = .rearL ∨ (d = .rearR ∧ ∀ w, s.composers.rearR.waiting = some w → w.pair = false)) →
      ∃ t f, exec (.frameStart d) s = .next t ∧ t.begins d f ∧
        (t.composer d).timing = (s.composer d).waiting.getD (s.composer d).timing ∧ (t.composer d).waiting = none ∧
        LatchesBank d s t ∧ CardsFollow [d] s t ∧
        (t.composer d).blank = ((s.composer d).userBlank || s.port.quiet || (s.composer d).waiting.isSome ||
          !s.port.attached) ∧
        f.layers = (if f.blank then [] else normalLayers t d (t.area d) false) ∧
        f.width = (t.composer d).timing.activeW ∧ f.height = (t.composer d).timing.activeH ∧
        (s.port.attached = true → t.reading (.select d) = true ∧ t.reading (.postedCounts .frames) = true) ∧
        t.twin.inUse = false ∧ t.composers.front = s.composers.front ∧ t.port = s.port ∧ t.capture = s.capture ∧
        t.guide = s.guide ∧ t.mixer = s.mixer ∧ t.chime = s.chime ∧ t.reverse = s.reverse ∧
        (∀ a, t.memory.read a = s.memory.read a)) ∧
    (∀ s : State, s.paired = true → AnswersNext (.frameStart .rearR) s s) ∧
    (∀ (s : State) (w : Timing), s.paired = false → s.composers.rearR.waiting = some w → w.pair = true →
      ∃ t, exec (.frameStart .rearR) s = .next t ∧ t.paired = true ∧ t.pairStarting = true ∧
        t.composers.rearR.timing = w ∧ t.composers.rearR.waiting = none ∧ t.composers.rearR.frame = none ∧
        t.composers.rearR.blank = true ∧ LatchesBank .rearR s t ∧ CardsFollow [.rearR] s t ∧
        (s.port.attached = true → t.reading (.select .rearR) = true ∧ t.reading (.postedCounts .frames) = true) ∧
        t.composers.rearL = s.composers.rearL ∧
        t.composers.front = s.composers.front ∧ t.capture = s.capture ∧ t.mixer = s.mixer ∧ t.port = s.port)) ∧
  (∀ s : State, s.paired = true → (∀ w, s.composers.rearR.waiting = some w → w.pair = true) → ∃ t f g,
      exec (.frameStart .rearL) s = .next t ∧ t.begins .rearL f ∧ t.begins .rearR g ∧ t.paired = true ∧
      t.composers.rearL.timing = s.composers.rearL.waiting.getD s.composers.rearL.timing ∧
      t.composers.rearL.waiting = none ∧
      t.composers.rearR.timing = s.composers.rearR.waiting.getD s.composers.rearR.timing ∧
      t.composers.rearR.waiting = none ∧
      f.width = t.composers.rearL.timing.activeW ∧ g.width = f.width ∧
      f.height = t.composers.rearL.timing.activeH ∧ g.height = f.height ∧
      LatchesBank .rearL s t ∧ LatchesBank .rearR s t ∧ CardsFollow [.rearL, .rearR] s t ∧
      (s.port.attached = true → t.reading (.select .rearL) = true ∧ t.reading (.select .rearR) = true ∧
        t.reading (.postedCounts .frames) = true) ∧
      f.layers = (if f.blank then [] else normalLayers t .rearL (t.area .rearL) t.twin.inUse) ∧
      g.layers = (if g.blank then [] else normalLayers t .rearR (t.area .rearR) t.twin.inUse) ∧
      t.pairStarting = false ∧ t.composers.rearR.restart = (s.composers.rearL.waiting.isSome || s.pairStarting) ∧
      t.composers.rearL.blank = (s.composers.rearL.userBlank || s.port.quiet ||
        s.composers.rearL.waiting.isSome || !s.port.attached) ∧
      t.composers.rearR.blank = (s.composers.rearR.userBlank || s.port.quiet ||
        (s.composers.rearL.waiting.isSome || s.pairStarting) || !s.port.attached) ∧
      (let films (c : Composer) := c.entries.filter fun e => e.isFilmOf .f0 || e.isFilmOf .f1
       t.twin.inUse = true ↔ t.composers.rearL.blank = false ∧ t.composers.rearR.blank = false ∧
        ∃ (e e' : Entry) (code code' fit : Byte) (c c' : FrameCard),
          films t.composers.rearL = [e] ∧ films t.composers.rearR = [e'] ∧
          e.body = .film code fit ∧ e'.body = .film code' fit ∧ streamOf code = streamOf code' ∧
          streamOf code = (if code = 0 then .f0 else .f1) ∧
          e.rect.w = e'.rect.w ∧ e.rect.h = e'.rect.h ∧
          t.currentCard (streamOf code) .rearL = some c ∧ t.currentCard (streamOf code) .rearR = some c' ∧
          c.index = c'.index ∧
          let cw := c.width.toNat
          let ch := c.height.toNat
          let fitted (r : Rect) : Rect := if fit = 0 then r
            else if cw * r.h ≤ ch * r.w then ⟨r.x + ((r.w : Int) - (cw * r.h / ch : Nat)) / 2, r.y, cw * r.h / ch, r.h⟩
            else ⟨r.x, r.y + ((r.h : Int) - (ch * r.w / cw : Nat)) / 2, r.w, ch * r.w / cw⟩
          let left := fitted e.rect
          let right := fitted e'.rect
          cw ≤ 4 * left.w ∧ left.w ≤ 8 * cw ∧ ch ≤ 4 * left.h ∧ left.h ≤ 8 * ch ∧
          (t.twin.inUse = true → t.twin.stream = streamOf code ∧ t.twin.pixels =
              ⟨c.addr, c.pitch.toNat, if c.format = 0 then .yuyv else .argb8888, 0, 0, cw, ch⟩ ∧ t.twin.destH = left.h ∧
            t.twin.topL = left.y ∧ t.twin.topR = right.y ∧ t.twin.plan = twinPlan t.twin.level c.height.toNat left 0
              ((List.range left.h).filter fun (k : Nat) =>
                decide (0 ≤ left.y + k ∧ left.y + k < f.height) || decide (0 ≤ right.y + k ∧ right.y + k < f.height)))) ∧
      (t.twin.inUse = true → t.twin.level = t.composers.rearL.level.lower t.composers.rearR.level ∧
        t.composers.rearL.held = some t.twin.level ∧ t.composers.rearR.held = some t.twin.level ∧
        t.twin.serial = s.twin.serial + 1 ∧ t.twin.rows = []) ∧
      t.composers.front = s.composers.front ∧ t.capture = s.capture ∧ t.mixer = s.mixer ∧ t.port = s.port) ∧
  (∀ (s : State) (w : Timing), s.paired = true → s.composers.rearR.waiting = some w → w.pair = false → ∃ t f g,
      exec (.frameStart .rearL) s = .next t ∧ t.paired = false ∧ t.begins .rearL f ∧ t.begins .rearR g ∧
      t.composers.rearR.timing = w ∧ t.composers.rearR.waiting = none ∧
      LatchesBank .rearL s t ∧ LatchesBank .rearR s t ∧ CardsFollow [.rearL, .rearR] s t ∧
      f.layers = (if f.blank then [] else normalLayers t .rearL (t.area .rearL) false) ∧
      g.width = w.activeW ∧ g.height = w.activeH ∧ t.composers.rearR.restart = true ∧
      g.blank = true ∧ t.pairStarting = false ∧ t.twin.inUse = false ∧
      t.composers.front = s.composers.front ∧ t.capture = s.capture ∧ t.mixer = s.mixer ∧ t.port = s.port) ∧
  (∀ (f : Film) (d : Display) (now : Word) (c : FrameCard),
    let start := (f.current.get d).getD f.frameReleased
    let due (x : FrameCard) := x.good = true ∧ atOrAfter x.index start = true ∧ notAfter x.pts now = true
    (f.selected d now = some c ↔ ∃ before after, f.frames = before ++ c :: after ∧ due c ∧ ∀ x ∈ after, ¬due x) ∧
    (f.selected d now = some c → (f.select d now).current = f.current.update d (fun _ => some c.index) ∧
      ((f.select d now).underrun.get d = true ↔ f.underrun.get d = true ∧ f.current.get d = some c.index) ∧
      (∀ x ∈ (f.select d now).frames, x.index = c.index → x.shown = true)) ∧
    (f.selected d now = none → f.select d now = f) ∧
    (f.runsUnder d now = true ↔ ∃ k x, f.current.get d = some k ∧ f.underrun.get d = false ∧
      isBefore (k + 1) f.framePosted = false ∧ f.frameAt k = some x ∧ notAfter (x.pts + x.duration) now = true))

/-- A frame start of FRONT that is not locked to the camera (R9, R14, R43, R47, R68, R86, R154 to R157, R161, R162,
R186). The wanted mode is spelled from the reverse view, the stores in use and the store published. From DIRECT the
mode goes to the wanted mode when the leave mark is set; from another mode it goes to DIRECT only by the notice
picture, and otherwise to the wanted mode. The waiting timing is current and its frame a restart frame, which alone is
blank in REVERSE and DIRECT; the waiting candidate is latched; while ATTACHED the select word and both frame lists'
posted counts are being read; film cards are selected in NORMAL and given up in the other modes, then released once. A
blank frame has no layer; in NORMAL it has the layers of the shown bank, with black over the view rectangle while the
view is SHOWING, UNAVAILABLE or LINGER (the model's reading, log 44); in REVERSE and DIRECT the stack of R155. FRONT
reads the newest published store when a layer is that store, and otherwise none, a frame in progress having ended
first, its rows taken (the model's choice, log 21); that a view rectangle outside the active area leaves no camera
layer and reads no store is the model's choice (log 54). A FRONT locked to the camera begins no frame by itself
(R159). -/
def Obligations.FrontFrameStart : Prop :=
  (∀ s : State, ¬(s.frontView.mode = .direct ∧ s.frontView.locked = true ∧ s.frontView.leave = false) →
    let stores := s.port.attached = true ∧ s.capture.record.stores ≠ none
    let wanted : FrontMode := match s.reverse.view with
      | .off => .normal
      | .waking => if stores then .normal else .direct
      | _ => if stores ∧ s.capture.published ≠ none then .reverse else .direct
    let notice := s.reverse.view = .unavailable ∨ (s.reverse.view = .linger ∧ s.reverse.delivered = false)
    ∃ t f, exec (.frameStart .front) s = .next t ∧ t.begins .front f ∧ f.direct = none ∧ f.locked = false ∧
      t.frontView.locked = false ∧
      t.frontView.mode =
        (if s.frontView.mode = .direct then (if s.frontView.leave then wanted else .direct)
         else if wanted = .direct then (if notice then .direct else s.frontView.mode)
         else wanted) ∧
      t.frontView.leave = decide (t.frontView.mode = .direct ∧ wanted ≠ .direct) ∧
      t.composers.front.timing = s.composers.front.waiting.getD s.composers.front.timing ∧
      t.composers.front.waiting = none ∧ LatchesBank .front s t ∧ CardsFollow [.front] s t ∧
      t.composers.front.blank =
        (if t.frontView.mode = .normal then
          s.composers.front.userBlank || s.port.quiet || s.composers.front.waiting.isSome || !s.port.attached
         else s.composers.front.waiting.isSome) ∧
      (s.port.attached = true → t.reading (.select .front) = true ∧ t.reading (.postedCounts .frames) = true) ∧
      (f.blank = false → t.frontView.mode = .normal →
        let r := s.capture.record
        let view : Rect := ⟨r.viewX, r.viewY, r.viewW, r.viewH⟩
        let covers := s.reverse.view = .showing ∨ s.reverse.view = .unavailable ∨ s.reverse.view = .linger
        f.layers = normalLayers t .front (t.area .front) false ++
          (if covers then [⟨.black, 255, view, view.clip (t.area .front), false, [], none, false⟩] else []).filter
            fun l => l.clip.w != 0 && l.clip.h != 0) ∧
      (f.blank = false → t.frontView.mode ≠ .normal → ReverseStack t f) ∧
      f.guideSet = (if f.blank then none else s.guide.shown) ∧
      t.guide = { s.guide with cameraDrawn := !f.blank && decide (t.frontView.mode = .normal) &&
        t.composers.front.entries.any fun e => !e.bad && e.body == .camera } ∧
      (let ended := s.composers.front.frame ≠ none
       let reads := ∃ l ∈ f.layers, ∃ p, l.source = .store p
       t.capture = { s.capture with
        frontReading := t.capture.frontReading
        buffer := if ended then (s.capture.buffer.map fun l => { l with forFront := false }).filter (·.forWriter)
          else s.capture.buffer } ∧
       (reads → t.capture.frontReading = s.capture.published.map (·.store)) ∧
       (¬reads → t.capture.frontReading = if ended then none else s.capture.frontReading)) ∧
      t.composers.rearL = s.composers.rearL ∧ t.composers.rearR = s.composers.rearR ∧ t.port = s.port ∧
      t.mixer = s.mixer ∧ t.chime = s.chime ∧ t.reverse = s.reverse ∧ (∀ a, t.memory.read a = s.memory.read a)) ∧
  (∀ s : State, s.frontView.mode = .direct → s.frontView.locked = true → s.frontView.leave = false →
    AnswersNext (.frameStart .front) s s)

/-- The history at a frame start between frames (R22), of an unpaired rear display, of FRONT when it may begin a
frame, and of both rear displays in a pair: three LATE entries step the level down, eight ON_TIME ones up, each step
emptying the history and removing the held level; at FULL eight ON_TIME entries remove a held level and empty the
history; otherwise all three stay. A frame with twin fetch then holds the lower of both levels (R24). -/
def Obligations.QualityLevelSteps : Prop :=
  let moves (c : Composer) (level : Level) (history : List LateMark) (held : Option Level) : Prop :=
    let late := c.history.count .late
    let onTime := ∀ m ∈ c.history, m = .onTime
    (3 ≤ late → c.level ≠ .minimal →
      level = (if c.level = .full then .reduced else .minimal) ∧ history = List.replicate 8 .empty ∧ held = none) ∧
    (onTime → c.level ≠ .full →
      level = (if c.level = .minimal then .reduced else .full) ∧ history = List.replicate 8 .empty ∧ held = none) ∧
    (onTime → c.level = .full → c.held ≠ none →
      level = .full ∧ history = List.replicate 8 .empty ∧ held = none) ∧
    (onTime → c.level = .full → c.held = none → level = .full ∧ history = c.history ∧ held = none) ∧
    (¬onTime → (late < 3 ∨ c.level = .minimal) → level = c.level ∧ history = c.history ∧ held = c.held)
  (∀ (d : Display) (s : State), (s.composer d).frame = none →
    ((s.paired = false ∧ (d = .rearL ∨ (d = .rearR ∧ ∀ w, s.composers.rearR.waiting = some w → w.pair = false))) ∨
      (d = .front ∧ ¬(s.frontView.mode = .direct ∧ s.frontView.locked = true ∧ s.frontView.leave = false))) →
    ∃ t, exec (.frameStart d) s = .next t ∧
      moves (s.composer d) (t.composer d).level (t.composer d).history (t.composer d).held) ∧
  (∀ s : State, s.paired = true → s.composers.rearL.frame = none → s.composers.rearR.frame = none →
    ∃ t, exec (.frameStart .rearL) s = .next t ∧ ∀ d, d ≠ .front →
      (t.twin.inUse = false →
        moves (s.composer d) (t.composer d).level (t.composer d).history (t.composer d).held) ∧
      (t.twin.inUse = true → ∃ h, moves (s.composer d) (t.composer d).level (t.composer d).history h) ∧
      (t.twin.inUse = true →
        (t.composer d).held = some (t.composers.rearL.level.lower t.composers.rearR.level)))

/-- A frame end (R20, R21, R68, R4): a shown frame's LATE or ON_TIME enters the newest end of the history, the oldest
entry dropped, and a late one is counted; a blank frame leaves both; FRONT reads no store any more. A paired REAR_R ends
with REAR_L, whichever of the two has a frame in progress. A frame may end before all its lines are output, and the
command for a display, or a pair, without a frame in progress changes nothing: the model's choices (log 21, log 14). -/
def Obligations.FrameEnd : Prop :=
  let ended (c : Composer) (f : Frame) : Composer := { c with
    frame := none
    history := if f.blank then c.history else (if f.late then .late else .onTime) :: c.history.take 7
    lateFrames := if f.blank = false ∧ f.late = true then c.lateFrames + 1 else c.lateFrames }
  (∀ (s : State) (f : Frame), s.composers.front.frame = some f → ∃ t, exec (.frameEnd .front) s = .next t ∧
    t.composers = { s.composers with front := ended s.composers.front f } ∧ t.capture.frontReading = none ∧
    t.capture.published = s.capture.published ∧ t.capture.frames = s.capture.frames ∧ t.port = s.port ∧
    t.film = s.film ∧ t.notice = s.notice ∧ t.mixer = s.mixer) ∧
  (∀ (s : State) (f : Frame), s.paired = false → s.composers.rearL.frame = some f →
    AnswersNext (.frameEnd .rearL) s
      { s with composers := { s.composers with rearL := ended s.composers.rearL f } }) ∧
  (∀ (s : State) (f : Frame), s.paired = false → s.composers.rearR.frame = some f →
    AnswersNext (.frameEnd .rearR) s
      { s with composers := { s.composers with rearR := ended s.composers.rearR f } }) ∧
  (∀ (s : State) (f g : Frame), s.paired = true → s.composers.rearL.frame = some f →
    s.composers.rearR.frame = some g → AnswersNext (.frameEnd .rearL) s { s with composers := { s.composers with
      rearL := ended s.composers.rearL f
      rearR := ended s.composers.rearR g } }) ∧
  (∀ (s : State) (f : Frame), s.paired = true → s.composers.rearL.frame = some f → s.composers.rearR.frame = none →
    AnswersNext (.frameEnd .rearL) s
      { s with composers := { s.composers with rearL := ended s.composers.rearL f } }) ∧
  (∀ (s : State) (g : Frame), s.paired = true → s.composers.rearL.frame = none → s.composers.rearR.frame = some g →
    AnswersNext (.frameEnd .rearL) s
      { s with composers := { s.composers with rearR := ended s.composers.rearR g } }) ∧
  (∀ s : State, s.paired = true → AnswersNext (.frameEnd .rearR) s s) ∧
  (∀ (d : Display) (s : State), (s.composer d).frame = none →
    (d = .rearL → s.paired = true → s.composers.rearR.frame = none) → AnswersNext (.frameEnd d) s s)

/-- A line is output (R5, R11, R13, R14, R16 to R20, R100, R155, R158, R160). Of a frame with a line still to output,
none of whose rows is waited for from the camera (it takes no frame direct, or the line has begun, or the direct frame
is closed or every row the line needs in the line buffer), one line of its width is output, composed from black over
the layers in their order, each pixel of a layer's line blended over the one beneath it and every other pixel left; a layer whose rows are not all there gives its last line again, the line it drew last in
the frame, and the line and its frame are LATE exactly then, and with a shared film layer the frames of both rear
displays (R24); nothing of another display changes else; FRONT has then taken each row in the line buffer that no
later line needs. That a line needs a row whose weight there is 0 too is the model's reading (log 23). With a row
waited for nothing is output, and with no active line due the command changes nothing (the model's choice, log 14).
The layers of NORMAL are ordered by z, then kind, then place in the bank, each spelled for its kind, with STRETCH and
LETTERBOX; the lines of painted layers (a colour, black, the guide set, both glyphs, whose bitmaps are free values,
log 1), what a layer covers, the clipping of rectangles, the blending, the weighted sum of pixels, the YUV conversion, the source position, the taps, the weights and the pixels of a scaled line
are spelled out. The line of a PICTURE, a FILM entry, a camera store, the shared film frame or the direct frame is the
scaled line of that source's rows, at its size, with the guide set over the camera pixels of a CAMERA entry (R14): a row
is there once all its bytes have come without fault, put together by their offsets whatever the order they came in, and
its pixels are decoded by the source's format (R18, 11.3), spelled for ARGB8888, RGB565, YUYV and WIDE32. A request of a
source row fetch completes: its bytes join the row of its layer in the frame it was made for, or of the shared film
frame, if the row is still needed (which rows are is the model's choice, log 45); any other is discarded (R24). One that
ends with an error, with corrupted data or with another length leaves the row at fault, so that each line that needs it
is late (R20, R172), whatever else of it comes, and no other row is touched; for a row that is needed no more, or of
another frame, nothing is left of it but the fault's own counts. -/
def Obligations.LinesAndFetches : Prop :=
  let ready (s : State) (f : Frame) : Prop := f.lineStarted = true ∨ ∀ x, f.direct = some x → x.closed = true ∨
    ∀ l ∈ f.layers, l.source = .direct → ∀ r ∈ l.needs f.level x.height f.nextLine,
      ∃ b ∈ s.capture.buffer, b.frame = x.frame ∧ b.row = r
  ((∀ (d : Display) (s : State) (f : Frame), (s.composer d).frame = some f → f.nextLine < f.height → ready s f →
      ∃ t g, exec (.lineOutput d) s = .next t ∧ (t.composer d).output.length = f.width ∧
        (t.composer d).frame = some g ∧ g.nextLine = f.nextLine + 1 ∧ g.serial = f.serial ∧
        g.layers.length = f.layers.length ∧
        (g.late = true ↔ f.late = true ∨
          ∃ l ∈ f.layers, l.covers f.nextLine = true ∧ layerLine s f l f.nextLine = none) ∧
        (t.composer d).output = f.layers.foldl (fun canvas l =>
          if l.covers f.nextLine then
            match (layerLine s f l f.nextLine).or l.prev with
            | some line => drawLine l.opacity line canvas
            | none => canvas
          else canvas) (List.replicate f.width ⟨0, 0, 0⟩) ∧
        (f.layers = [] → (t.composer d).output = List.replicate f.width ⟨0, 0, 0⟩ ∧ g.late = f.late) ∧
        (∀ (k : Nat) (l : Layer), f.layers[k]? = some l →
          let drawn := if l.covers f.nextLine then (layerLine s f l f.nextLine).or l.prev else l.prev
          ∃ rows, g.layers[k]? = some { l with rows := rows, prev := drawn }) ∧
        (∀ e, e ≠ d → t.composer e = if e ≠ .front ∧ (∃ l ∈ f.layers, l.source.isTwin = true ∧
            l.covers f.nextLine = true ∧ layerLine s f l f.nextLine = none) then
          { s.composer e with frame := (s.composer e).frame.map fun h => { h with late := true } }
          else s.composer e) ∧
        g.lineStarted = false ∧ g.direct = f.direct ∧ (d ≠ .front → t.capture = s.capture) ∧
        (d = .front → t.capture = { s.capture with buffer := (s.capture.buffer.map fun l =>
          { l with forFront := l.forFront && frontUses t l.frame l.row }).filter fun l => l.forWriter || l.forFront }) ∧
        (t.composer d).history = (s.composer d).history ∧ t.port = s.port ∧ t.film = s.film ∧ t.mixer = s.mixer ∧
        t.notice = s.notice) ∧
    (∀ (d : Display) (s : State) (f : Frame), (s.composer d).frame = some f → f.nextLine < f.height → ¬ready s f →
      AnswersNext (.lineOutput d) s s) ∧
    (∀ (d : Display) (s : State), (s.composer d).frame = none → AnswersNext (.lineOutput d) s s) ∧
    (∀ (d : Display) (s : State) (f : Frame), (s.composer d).frame = some f → f.height ≤ f.nextLine →
      AnswersNext (.lineOutput d) s s)) ∧
  ((∀ (s : State) (tag : Nat) (i : Issued) (d : Display) (n l r o length : Nat) (x : Frame) (bytes : List Byte),
      s.awaits tag i (.layerRow d n l r o) length → bytes.length = length → (s.composer d).frame = some x →
      (x.serial = n → x.fetchNeeded x.nextLine ⟨0, l, r, 0⟩ = true →
        AnswersNext (.composerFetchDone tag (.data bytes)) s
          ((s.readEnded i).onComposer d fun c => { c with frame := some { x with
            layers := setAt x.layers l fun y => { y with rows := putChunk r o bytes y.rows } } })) ∧
      ((x.serial ≠ n ∨ x.fetchNeeded x.nextLine ⟨0, l, r, 0⟩ = false) →
        AnswersNext (.composerFetchDone tag (.data bytes)) s (s.readEnded i))) ∧
    (∀ (s : State) (tag : Nat) (i : Issued) (d : Display) (n l r o length : Nat) (bytes : List Byte),
      s.awaits tag i (.layerRow d n l r o) length → bytes.length = length → (s.composer d).frame = none →
      AnswersNext (.composerFetchDone tag (.data bytes)) s (s.readEnded i)) ∧
    (∀ (s : State) (tag : Nat) (i : Issued) (n r o length : Nat) (bytes : List Byte),
      s.awaits tag i (.twinRow n r o) length → bytes.length = length →
      let u := s.readEnded i
      let wanted := s.twin.inUse = true ∧ s.twin.serial = n ∧ ∃ k, twinFirst s = some k ∧ k ≤ r
      (wanted → AnswersNext (.composerFetchDone tag (.data bytes)) s
        { u with twin := { s.twin with rows := putChunk r o bytes s.twin.rows } }) ∧
      (¬wanted → AnswersNext (.composerFetchDone tag (.data bytes)) s u)) ∧
    (∀ (s : State) (tag : Nat) (i : Issued) (what : ReadOf) (length : Nat) (c : Completion), s.awaits tag i what length →
      (s.port.attached = true → s.arbiter.consecutive.get i.request.client < 15) →
      (c = .error ∨ c = .corrupted ∨ ∃ bytes : List Byte, c = .data bytes ∧ bytes.length ≠ length) →
      let leaves (u : State) : Prop := ∃ t, exec (.composerFetchDone tag c) s = .next t ∧
        SameButWrites t { u with arbiter := t.arbiter, notice := (setFlag .linkFault s).notice } ∧
        t.arbiter.total = s.arbiter.total + 1
      (∀ (d : Display) (n l r o : Nat), what = .layerRow d n l r o →
        ((s.composer d).frame = none → leaves s) ∧
        (∀ x, (s.composer d).frame = some x →
          (x.serial = n → x.fetchNeeded x.nextLine ⟨0, l, r, 0⟩ = true →
            leaves (s.onComposer d fun k => { k with frame := some { x with
              layers := setAt x.layers l fun y => { y with rows := putFault r y.rows } } })) ∧
          ((x.serial ≠ n ∨ x.fetchNeeded x.nextLine ⟨0, l, r, 0⟩ = false) → leaves s))) ∧
      (∀ n r o : Nat, what = .twinRow n r o →
        let wanted := s.twin.inUse = true ∧ s.twin.serial = n ∧ ∃ k, twinFirst s = some k ∧ k ≤ r
        (wanted → leaves { s with twin := { s.twin with rows := putFault r s.twin.rows } }) ∧
        (¬wanted → leaves s)))) ∧
  (let size (f : PixFmt) : Nat := match f with | .argb8888 => 4 | .rgb565 => 2 | .yuyv => 2 | .wide32 => 4
   let rowOf (rows : List RowBuf) (p : Pixels) (r : Nat) : Option (List Argb) :=
     (rows.find? fun b => b.row == r).bind fun b =>
       let got := (b.chunks.map (·.2)).flatten
       if b.faulted = false ∧ p.sw * size p.format ≤ got.length then some (rowPixels p.format got) else none
   (∀ (s : State) (f : Frame) (l : Layer) (y : Int),
      (∀ p, (l.source = .picture p ∨ ∃ st, l.source = .film st p) →
        layerLine s f l y = scaledLine f.level l p.sw p.sh y (rowOf l.rows p)) ∧
      (∀ p, l.source = .store p → layerLine s f l y = (scaledLine f.level l p.sw p.sh y (rowOf l.rows p)).map fun x =>
        if l.withGuides then
          ⟨x.x0, x.pixels.mapIdx fun k c => (f.guideSet.bind fun g => g.pixel (x.x0 + k) y).getD c⟩
        else x) ∧
      (∀ st, l.source = .twin st → layerLine s f l y =
        scaledLine f.level l s.twin.pixels.sw s.twin.pixels.sh y (rowOf s.twin.rows s.twin.pixels)) ∧
      (l.source = .direct → (f.direct = none → layerLine s f l y = none) ∧
        ∀ d, f.direct = some d → layerLine s f l y = scaledLine f.level l d.width d.height y fun r =>
          (s.capture.buffer.find? fun b => b.frame == d.frame && b.row == r).map fun b => rowPixels .yuyv b.payload)) ∧
   (∀ (rows : List RowBuf) (r : Nat) (p : Pixels) (parts came : List (Nat × List Byte)), (∀ b ∈ rows, b.row ≠ r) →
      parts ≠ [] → (parts.Pairwise fun a b => a.1 < b.1) → came.Perm parts →
      let got := came.foldl (fun l x => putChunk r x.1 x.2 l) rows
      let bytes := (parts.map (·.2)).flatten
      rowOf got p r = (if p.sw * size p.format ≤ bytes.length then some (rowPixels p.format bytes) else none) ∧
      ∀ q, q ≠ r → rowOf got p q = rowOf rows p q) ∧
   (∀ (rows : List RowBuf) (r o : Nat) (bytes : List Byte) (p : Pixels), rowOf (putFault r rows) p r = none ∧
      rowOf (putChunk r o bytes (putFault r rows)) p r = none ∧
      ∀ q, q ≠ r → rowOf (putFault r rows) p q = rowOf rows p q) ∧
   (∀ (bytes : List Byte) (k : Nat),
      let b (n : Nat) : Byte := byteAt bytes n
      (4 * k + 4 ≤ bytes.length →
        (rowPixels .argb8888 bytes)[k]? =
          some ⟨(b (4 * k + 3)).toNat, (b (4 * k + 2)).toNat, (b (4 * k + 1)).toNat, (b (4 * k)).toNat⟩ ∧
        (rowPixels .wide32 bytes)[k]? = some (fromYuv (b (4 * k + 2)) (b (4 * k + 1)) (b (4 * k))) ∧
        (rowPixels .yuyv bytes)[2 * k]? = some (fromYuv (b (4 * k)) (b (4 * k + 1)) (b (4 * k + 3))) ∧
        (rowPixels .yuyv bytes)[2 * k + 1]? = some (fromYuv (b (4 * k + 2)) (b (4 * k + 1)) (b (4 * k + 3)))) ∧
      (2 * k + 2 ≤ bytes.length →
        let n := (b (2 * k)).toNat + 256 * (b (2 * k + 1)).toNat
        let red := n / 2048
        let green := n / 32 % 64
        let blue := n % 32
        (rowPixels .rgb565 bytes)[k]? = some ⟨255, red * 8 + red / 4, green * 4 + green / 16, blue * 8 + blue / 4⟩) ∧
      (rowPixels .argb8888 bytes).length = bytes.length / 4 ∧ (rowPixels .wide32 bytes).length = bytes.length / 4 ∧
      (rowPixels .yuyv bytes).length = 2 * (bytes.length / 4) ∧
      (rowPixels .rgb565 bytes).length = bytes.length / 2)) ∧
  ((∀ l : List Entry,
      let rank (e : Entry) : Nat := match e.body with
        | .picture _ _ _ _ _ _ _ => 1
        | .film _ _ => 2
        | .camera => 3
        | _ => 0
      (drawOrder l).Perm (l.filter fun e => !e.bad) ∧
      ((drawOrder l).Pairwise fun a b => a.z < b.z ∨ (a.z = b.z ∧ rank a ≤ rank b)) ∧
      ∀ z k, (drawOrder l).filter (fun e => e.z == z && rank e == k) =
        l.filter fun e => !e.bad && e.z == z && rank e == k) ∧
    (∀ (opacity : Nat) (line : LayerLine) (canvas : List Rgb), (drawLine opacity line canvas).length = canvas.length ∧
      ∀ (k : Nat) (below : Rgb), canvas[k]? = some below →
        (∀ (j : Nat) (pixel : Argb), (k : Int) = line.x0 + j → line.pixels[j]? = some pixel →
          (drawLine opacity line canvas)[k]? = some (blend opacity pixel below)) ∧
        ((∀ j : Nat, (k : Int) = line.x0 + j → line.pixels.length ≤ j) →
          (drawLine opacity line canvas)[k]? = some below)) ∧
    (∀ (l : Layer) (y : Int), l.covers y = true ↔ l.clip.y ≤ y ∧ y < l.clip.y + l.clip.h ∧ l.dropped = false) ∧
    (∀ r c : Rect, let x := max r.x c.x
      let y := max r.y c.y
      r.clip c = ⟨x, y, (min (r.x + r.w) (c.x + c.w) - x).toNat, (min (r.y + r.h) (c.y + c.h) - y).toNat⟩) ∧
    (∀ l : List (Argb × Int),
      let channel (of : Argb → Nat) : Nat := mixChannel (l.map fun x => (of x.1, x.2))
      mixPixels l = ⟨channel fun c => c.a, channel fun c => c.r, channel fun c => c.g, channel fun c => c.b⟩) ∧
    (∀ (s : State) (st : Stream) (d : Display), s.currentCard st d =
      ((s.stream st).current.get d).bind fun k => (s.stream st).frames.find? fun c => c.index == k) ∧
    (∀ (f : Frame) (y : Int) (n r : Nat), f.fetchNeeded y ⟨0, n, r, 0⟩ = true ↔
      ∃ l p first w, f.layers[n]? = some l ∧ l.source.pixels = some p ∧ l.dropped = false ∧
        max y l.clip.y < l.clip.y + l.clip.h ∧
        (taps f.level p.sh l.dest.h (max y l.clip.y - l.dest.y).toNat).head? = some (first, w) ∧ first ≤ r) ∧
    (∀ s : State,
      let h : Nat := s.composers.rearL.timing.activeH
      let next (c : Composer) : Nat := match c.frame with
        | none => h
        | some f => f.nextLine
      let due (top : Int) (c : Composer) (k : Nat) : Bool := decide (0 ≤ top + k ∧ top + k < h ∧ next c ≤ top + k)
      twinFirst s = ((List.range s.twin.destH).find? fun k =>
        due s.twin.topL s.composers.rearL k || due s.twin.topR s.composers.rearR k).bind fun k =>
          (taps s.twin.level s.twin.pixels.sh s.twin.destH k).head?.map fun x => x.1) ∧
    (∀ (s : State) (frame row : Nat), frontUses s frame row = true ↔ ∃ f x, s.composers.front.frame = some f ∧
      f.direct = some x ∧ x.frame = frame ∧ ∃ y, f.nextLine ≤ y ∧ y < f.height ∧
        ∃ l ∈ f.layers, l.source = .direct ∧ row ∈ l.needs f.level x.height y) ∧
    (∀ (s : State) (d : Display) (area : Rect) (shared : Bool), normalLayers s d area shared =
      ((drawOrder (s.composer d).entries).filterMap (entryLayer s d area shared)).filter fun l =>
        l.clip.w != 0 && l.clip.h != 0) ∧
    (∀ (s : State) (d : Display) (area : Rect) (shared : Bool) (e : Entry),
      let layer (source : LayerSource) (dest : Rect) : Layer :=
        ⟨source, e.opacity, dest, dest.clip area, false, [], none, false⟩
      let r := e.rect
      let record := s.capture.record
      entryLayer s d area shared e = match e.body with
        | .fill a r g b => some (layer (.fill ⟨a.toNat, r.toNat, g.toNat, b.toNat⟩) e.rect)
        | .picture p n c sx sy sw sh => some (layer (.picture ⟨p, n.toNat,
            if c = 0 then .argb8888 else if c = 1 then .rgb565 else .yuyv, sx.toNat, sy.toNat, sw.toNat, sh.toNat⟩) r)
        | .film code fit => let st : Stream := if code = 0 then .f0 else .f1
          (s.currentCard st d).bind fun c =>
            let cw := c.width.toNat
            let ch := c.height.toNat
            let dest : Rect := if fit = 0 then r
              else if cw * r.h ≤ ch * r.w then ⟨r.x + ((r.w : Int) - (cw * r.h / ch : Nat)) / 2, r.y, cw * r.h / ch, r.h⟩
              else ⟨r.x, r.y + ((r.h : Int) - (ch * r.w / cw : Nat)) / 2, r.w, ch * r.w / cw⟩
            if cw ≤ 4 * dest.w ∧ dest.w ≤ 8 * cw ∧ ch ≤ 4 * dest.h ∧ dest.h ≤ 8 * ch then
              some (layer (if shared then .twin st else .film st
                ⟨c.addr, c.pitch.toNat, if c.format = 0 then .yuyv else .argb8888, 0, 0, cw, ch⟩) dest)
            else none
        | .camera => if s.capture.state = .capturing then
              record.stores.bind fun st => s.capture.published.map fun p =>
                { layer (.store ⟨if p.store = 0 then st.s0 else if p.store = 1 then st.s1 else st.s2,
                    record.width * (if record.wide then 4 else 2), if record.wide then .wide32 else .yuyv, 0, 0,
                    record.width, record.height⟩) ⟨record.viewX, record.viewY, record.viewW, record.viewH⟩ with
                  withGuides := true }
            else none
        | _ => none) ∧
    (∀ (s : State) (f : Frame) (l : Layer) (y : Int),
      let paints (p : Int → Argb) : Prop :=
        layerLine s f l y = some ⟨l.clip.x, (List.range l.clip.w).map fun (k : Nat) => p (l.clip.x + k)⟩
      let v := l.dest
      (∀ c, l.source = .fill c → paints fun _ => c) ∧
      (l.source = .black → paints fun _ => ⟨255, 0, 0, 0⟩) ∧
      (l.source = .guides → paints fun x => (f.guideSet.bind fun g => g.pixel x y).getD ⟨0, 0, 0, 0⟩) ∧
      (l.source = .notice → paints fun x =>
        let gx := x - (v.x + ((v.w : Int) - 256) / 2)
        let gy := y - (v.y + ((v.h : Int) - 64) / 2)
        if 0 ≤ gx ∧ gx < 256 ∧ 0 ≤ gy ∧ gy < 64 ∧ Config.noticeGlyph gx.toNat gy.toNat = true then ⟨255, 255, 255, 255⟩
        else ⟨255, 0, 0, 0⟩) ∧
      (l.source = .poor → paints fun x =>
        let gx := x - (v.x + v.w - 40)
        let gy := y - (v.y + 8)
        if 0 ≤ gx ∧ gx < 32 ∧ 0 ≤ gy ∧ gy < 32 ∧ Config.poorGlyph gx.toNat gy.toNat = true then ⟨255, 255, 255, 0⟩
        else ⟨0, 0, 0, 0⟩)) ∧
    (∀ (level : Level) (l : Layer) (w h : Nat) (y : Int) (row : Nat → Option (List Argb)) (src : Nat → List Argb),
      let down := taps level h l.dest.h (y - l.dest.y).toNat
      let along (k : Nat) := taps level w l.dest.w ((l.clip.x - l.dest.x).toNat + k)
      ((∃ t ∈ down, row t.1 = none) → scaledLine level l w h y row = none) ∧
      ((∀ t ∈ down, row t.1 = some (src t.1)) → scaledLine level l w h y row =
        some ⟨l.clip.x, (List.range l.clip.w).map fun k => mixPixels (down.map fun t =>
          (mixPixels ((along k).map fun u => ((src t.1).getD u.1 ⟨0, 0, 0, 0⟩, u.2)), t.2))⟩)) ∧
    (∀ (opacity : Nat) (src : Argb) (dst : Rgb),
      let a := (2 * opacity * src.a + 255) / 510
      let mix (x y : Nat) := (x * a + y * (255 - a) + 127) / 255
      blend opacity src dst = ⟨mix src.r dst.r, mix src.g dst.g, mix src.b dst.b⟩) ∧
    (∀ y u v : Byte,
      let c : Int := y.toNat - 16
      let d : Int := u.toNat - 128
      let e : Int := v.toNat - 128
      let level (x : Int) : Nat := (max 0 (min 255 x)).toNat
      fromYuv y u v = ⟨255, level ((298 * c + 409 * e + 128) / 256), level ((298 * c - 100 * d - 208 * e + 128) / 256),
        level ((298 * c + 516 * d + 128) / 256)⟩) ∧
    (∀ (level : Level) (size dest d : Nat), 1 ≤ size → 1 ≤ dest →
      ((taps level size dest d).map (·.2)).sum = 64 ∧ ∀ x ∈ taps level size dest d, x.1 < size) ∧
    (∀ (size dest d : Nat), 1 ≤ size → 1 ≤ dest →
      let i := sourcePosition size dest d / 64
      let p := sourcePosition size dest d % 64
      let pixel (j : Int) : Nat := (max 0 (min ((size : Int) - 1) j)).toNat
      let a := roundDiv (32 * (-(p * p * p) + 128 * (p * p) - 4096 * p)) 262144
      let b := roundDiv (32 * (-3 * (p * p * p) + 256 * (p * p) + 4096 * p)) 262144
      let c := roundDiv (32 * (p * p * p - 64 * (p * p))) 262144
      taps .full size dest d = [(pixel (i - 1), a), (pixel i, 64 - a - b - c), (pixel (i + 1), b), (pixel (i + 2), c)] ∧
      taps .reduced size dest d = [(pixel i, 64 - p), (pixel (i + 1), p)] ∧
      taps .minimal size dest d = [(min (size - 1) (((2 * d + 1) * size) / (2 * dest)), 64)]) ∧
    (∀ l : List (Nat × Int), mixChannel l =
      (max 0 (min 255 (((l.map fun x => (x.1 : Int) * x.2).sum + 32) / 64))).toNat) ∧
    (∀ (size dest d : Nat), 1 ≤ dest →
      sourcePosition size dest d = ((2 * (d : Int) + 1) * size * 32) / dest - 32 ∧
      (size = dest → sourcePosition size dest d = 64 * d)))
/-! ## The film timing unit and the audio fetcher (chapter 2) -/

/-- The stream asks (R27 to R29, R31, R32). With no PLAY waiting: PLAY in STOPPED sets the start pts and the clock
mode from the parameter words, becomes the waiting PLAY with an empty result and moves the stream to PRIMING; in
PAUSED it moves it to PLAYING with DONE. PAUSE in PLAYING or STARVED moves it to PAUSED with DONE. Any other state is
answered REFUSED_STATE, a mode word beyond 1 or another nonzero parameter word REFUSED_FIELD. Any ask taken while a
PLAY waits supersedes it first (R28): its sequence becomes the superseded one, SUPERSEDED is written as a result,
which ASK_ANSWERED counts, and the stream is STOPPED with clock 0. The new ask is then acted on there: a PLAY primes
the stream again, a PAUSE is answered REFUSED_STATE, a STOP stops it, and bad fields are answered REFUSED_FIELD. That
a take with an empty result writes the block count too is the model's reading (log 18); that a block left to go on by
a PAUSE goes on after a PLAY within it is the model's choice (log 65). -/
def Obligations.StreamPlayAndPause : Prop :=
  (∀ (st : Stream) (q : Word) (p : List Word) (s : State), s.mayTake (streamSlot st) q →
      (s.stream st).waitingPlay = none →
      let n := streamSlot st
      let playOk := (p.getD 1 0).toNat ≤ 1 ∧ noParams (p.drop 2)
      (playOk → (s.stream st).state = .stopped → AnswersNext (.streamPlay st q p) s
        (takeAsk n q .empty (s.onStream st fun f => { f with
          startPts := some (p.getD 0 0)
          mode := if p.getD 1 0 = 1 then .free else .sound
          waitingPlay := some q
          state := .priming }))) ∧
      (playOk → (s.stream st).state = .paused → AnswersNext (.streamPlay st q p) s
        (takeAsk n q .done (s.onStream st fun f => { f with state := .playing }))) ∧
      (playOk → (s.stream st).state ≠ .stopped → (s.stream st).state ≠ .paused →
        AnswersNext (.streamPlay st q p) s (takeAsk n q .refusedState s)) ∧
      (¬playOk → AnswersNext (.streamPlay st q p) s (takeAsk n q .refusedField s)) ∧
      (noParams p → ((s.stream st).state = .playing ∨ (s.stream st).state = .starved) →
        AnswersNext (.streamPause st q p) s (takeAsk n q .done (s.onStream st fun f => { f with state := .paused }))) ∧
      (noParams p → (s.stream st).state ≠ .playing → (s.stream st).state ≠ .starved →
        AnswersNext (.streamPause st q p) s (takeAsk n q .refusedState s)) ∧
      (¬noParams p → AnswersNext (.streamPause st q p) s (takeAsk n q .refusedField s))) ∧
  (∀ (st : Stream) (q first : Word) (p : List Word) (s : State), s.shaped → s.mayTake (streamSlot st) q →
      (s.stream st).waitingPlay = some first → noParams p →
      ∃ t, exec (.streamPause st q p) s = .next t ∧
        t.stream st = { s.stream st with
          superseded := some first, waitingPlay := none, state := .stopped, clock := 0, startPts := none } ∧
        t.slot (streamSlot st) = ⟨q, none, q, .refusedState, s.port.blockCount⟩ ∧
        t.notice.counts.getD 0 0 = s.notice.counts.getD 0 0 + 2 ∧ t.notice.cause.getLsbD 0 = true ∧
        t.composers = s.composers ∧ t.port = s.port ∧ t.capture = s.capture ∧ t.mixer = s.mixer) ∧
  (∀ (st : Stream) (q first : Word) (p : List Word) (s : State), s.mayTake (streamSlot st) q →
      (s.stream st).waitingPlay = some first →
      let n := streamSlot st
      let u := writeResult n .superseded (s.onStream st fun f => { f with
        superseded := some first, waitingPlay := none, state := .stopped, clock := 0, startPts := none })
      let playOk := (p.getD 1 0).toNat ≤ 1 ∧ noParams (p.drop 2)
      (playOk → AnswersNext (.streamPlay st q p) s (takeAsk n q .empty (u.onStream st fun f => { f with
        startPts := some (p.getD 0 0)
        mode := if p.getD 1 0 = 1 then .free else .sound
        waitingPlay := some q
        state := .priming }))) ∧
      (¬playOk → AnswersNext (.streamPlay st q p) s (takeAsk n q .refusedField u)) ∧
      (noParams p → AnswersNext (.streamPause st q p) s (takeAsk n q .refusedState u) ∧
        AnswersNext (.streamStop st q p) s (takeAsk n q .done (stopStream st u))) ∧
      (¬noParams p → AnswersNext (.streamPause st q p) s (takeAsk n q .refusedField u) ∧
        AnswersNext (.streamStop st q p) s (takeAsk n q .refusedField u)))

/-- STREAM_STOP in any state (R33, R28): both released counts and cursors are the posted counts, every held card and
current card, the clock, the start pts and the block's samples are given up, counts and clock mode are kept, a PLAY
that waits is superseded, and the ask is answered DONE. A card read on its way runs on, to be discarded; that one which
faulted before the STOP delays the list no more is the model's choice (log 69). Its layers in
frames in progress, the shared film layer among them, contribute no more, none of their fetches is left to make, and
what one in flight brings is discarded, the shared layer's by its serial; its samples still to be presented are
withdrawn (the model's reading, log 24). With a nonzero parameter word it is answered REFUSED_FIELD. -/
def Obligations.StreamStop : Prop :=
  (∀ (st : Stream) (q : Word) (p : List Word) (s : State), s.shaped → s.mayTake (streamSlot st) q → noParams p →
    let waits := (s.stream st).waitingPlay
    ∃ t, exec (.streamStop st q p) s = .next t ∧
      t.stream st = { s.stream st with
        state := .stopped
        clock := 0
        startPts := none
        waitingPlay := none
        superseded := waits.or (s.stream st).superseded
        frames := []
        frameFaulted := false
        sounds := []
        soundFaulted := false
        headOffset := 0
        intake := (s.stream st).intake + 1
        current := ⟨none, none, none⟩
        underrun := ⟨false, false, false⟩
        block := []
        frameReleased := (s.stream st).framePosted
        frameCursor := (s.stream st).framePosted
        soundReleased := (s.stream st).soundPosted
        soundCursor := (s.stream st).soundPosted } ∧
      (∀ x, x ≠ st → t.stream x = s.stream x) ∧
      t.slot (streamSlot st) = ⟨q, none, q, .done, s.port.blockCount⟩ ∧
      (∀ (d : Display) (f : Frame), (t.composer d).frame = some f →
        (∀ l ∈ f.layers, ∀ px, l.source = .film st px → l.dropped = true ∧ l.rows = []) ∧
        (∀ l ∈ f.layers, l.source = .twin st → l.dropped = true ∧ l.prev = none) ∧
        (∀ r ∈ f.plan, ∀ l px, f.layers[r.layer]? = some l → l.source ≠ .film st px)) ∧
      (s.twin.stream = st → t.twin.rows = [] ∧ t.twin.plan = [] ∧ t.twin.serial = s.twin.serial + 1) ∧
      (s.twin.stream ≠ st → t.twin = s.twin) ∧
      (∀ r ∈ t.audio.queue, ∀ n k m, r.work ≠ .read (.soundSamples st n k) m) ∧
      t.notice = (setFlag .askAnswered (if waits = none then s else setFlag .askAnswered s)).notice ∧
      t.port = s.port ∧ t.capture = s.capture ∧ t.mixer = s.mixer ∧
      t.chime = s.chime ∧ (∀ a, t.memory.read a = s.memory.read a)) ∧
  (∀ (st : Stream) (q : Word) (p : List Word) (s : State), s.mayTake (streamSlot st) q → ¬noParams p →
    (s.stream st).waitingPlay = none →
    AnswersNext (.streamStop st q p) s (takeAsk (streamSlot st) q .refusedField s))

/-- Posted counts (R189, R34): a value before the copy is not handed, one beyond the released count by more than the
list's size (16 frame cards, 32 sound cards) is cut to that, any other is handed; the first two are counted for their
list with AREA_FAULT, whose record names the list by a number (the model's choice, log 61). A copy handed or cut that
is after the read cursor has the card at the cursor read, from its slot of the list, F0's first, unless a card of the
list is being read or its last read has faulted; one read of a whole card is the model's reading (log 16). Nothing
else of a stream changes. Before and after are spelled as 0.6 compares counts, modulo 2^32. -/
def Obligations.PostedCounts : Prop :=
  (∀ (s : State) (tag : Nat) (i : Issued) (k : ListKind) (bytes : List Byte), s.awaits tag i (.postedCounts k) 8 →
    bytes.length = 8 →
    let value (st : Stream) := wordAt bytes (4 * streamSlot st)
    let size : Word := match k with | .frames => 16 | .sound => 32
    let back (st : Stream) := isBefore (value st) ((s.stream st).posted k)
    let beyond (st : Stream) := isAfter (value st) ((s.stream st).released k + size)
    ∃ t, exec (.postedCountReadDone tag (.data bytes)) s = .next t ∧
      (let copy (st : Stream) := if back st then (s.stream st).posted k
        else if beyond st then (s.stream st).released k + size else value st
       let asks (st : Stream) := !back st && isAfter (copy st) ((s.stream st).cursor k) &&
        !(s.stream st).cardReading k && !(s.stream st).cardFaulted k
       let place (st : Stream) := 0x400 * streamSlot st + (match k with
        | .frames => 0x3000 + 64 * (((s.stream st).cursor k).toNat % 16)
        | .sound => 0x3800 + 32 * (((s.stream st).cursor k).toNat % 32))
       let reads (st : Stream) : List Request := if asks st then [⟨.poller, s.areaAddr (place st),
        .read (.card st k (s.stream st).intake ((s.stream st).cursor k)) (match k with | .frames => 64 | .sound => 32)⟩]
        else []
       (∀ st, t.stream st = ((s.stream st).setPosted k (copy st)).setReading k
        ((s.stream st).cardReading k || asks st)) ∧
       t.readOrder = s.readOrder ++ reads .f0 ++ reads .f1) ∧
      (∀ st, (match k with | .frames => t.poller.frameErrors | .sound => t.poller.soundErrors).get st =
        (match k with | .frames => s.poller.frameErrors | .sound => s.poller.soundErrors).get st +
          (if back st = true ∨ beyond st = true then 1 else 0)) ∧
      (back .f0 = false → beyond .f0 = false → back .f1 = false → beyond .f1 = false → t.notice = s.notice) ∧
      (∀ st, back st = true ∨ beyond st = true → t.notice.cause.getLsbD 5 = true) ∧
      (back .f1 = true ∨ beyond .f1 = true → t.notice.lastFault =
        some ⟨.postedCount, (match k with | .frames => 1 | .sound => 3), s.port.blockCount⟩) ∧
      t.composers = s.composers ∧ t.capture = s.capture ∧ t.mixer = s.mixer ∧ t.chime = s.chime ∧ t.port = s.port) ∧
  (∀ a b : Word, (notAfter a b = true ↔ (b - a).toNat < 2 ^ 31) ∧ (isAfter a b = true ↔ 2 ^ 31 ≤ (b - a).toNat) ∧
    (isBefore a b = true ↔ a ≠ b ∧ (b - a).toNat < 2 ^ 31) ∧ (atOrAfter a b = true ↔ (a - b).toNat < 2 ^ 31))

/-- A card read completes (R34, R35, R36): the card is held behind the others, good or marked bad, a bad one counted
with FILM_EVENT, the read cursor goes on by one, and the next card is read when it is posted. A read from before a
STOP is discarded, and the next card read then. A read that faults leaves the cursor, and no card of the list is read
until the poller reads its posted count again; that this holds of a read from before a STOP too is the model's choice
(log 53). What a card holds is spelled field by field at the offsets of 11.4, and so is what makes it good. -/
def Obligations.CardRead : Prop :=
  (∀ (s : State) (tag : Nat) (i : Issued) (st : Stream) (n : Nat) (index : Word) (bytes : List Byte),
      (s.awaits tag i (.card st .frames n index) 64 → bytes.length = 64 → (s.stream st).intake = n →
        let c : FrameCard :=
          { index := index, addr := addrAt bytes 0, pitch := wordAt bytes 8, width := halfAt bytes 0xC
            height := halfAt bytes 0xE, format := byteAt bytes 0x10, pts := wordAt bytes 0x14
            duration := wordAt bytes 0x18, tag := wordAt bytes 0x1C, good := false, shown := false }
        ∃ t, exec (.cardReadDone tag (.data bytes)) s = .next t ∧
          t.stream st = { s.stream st with
            frames := (s.stream st).frames ++ [{ c with good := frameCardGood c }]
            frameCursor := (s.stream st).frameCursor + 1
            badFrames := (s.stream st).badFrames + (if frameCardGood c then 0 else 1)
            frameReading := isAfter (s.stream st).framePosted ((s.stream st).frameCursor + 1) &&
              !(s.stream st).frameFaulted } ∧
          t.notice = (if frameCardGood c then s.notice else (setFlag .filmEvent s).notice) ∧
          t.readOrder = s.readOrder ++
            (if isAfter (s.stream st).framePosted ((s.stream st).frameCursor + 1) && !(s.stream st).frameFaulted then
              [⟨.poller, s.areaAddr (0x3000 + 0x400 * streamSlot st + 64 * (((s.stream st).frameCursor + 1).toNat % 16)),
                .read (.card st .frames n ((s.stream st).frameCursor + 1)) 64⟩] else [])) ∧
      (s.awaits tag i (.card st .sound n index) 32 → bytes.length = 32 → (s.stream st).intake = n →
        let c : SoundCard :=
          { index := index, addr := addrAt bytes 0, count := wordAt bytes 8, pts := wordAt bytes 0xC
            good := false, done := false }
        ∃ t, exec (.cardReadDone tag (.data bytes)) s = .next t ∧
          t.stream st = { s.stream st with
            sounds := (s.stream st).sounds ++ [{ c with good := soundCardGood c }]
            soundCursor := (s.stream st).soundCursor + 1
            badSounds := (s.stream st).badSounds + (if soundCardGood c then 0 else 1)
            soundReading := isAfter (s.stream st).soundPosted ((s.stream st).soundCursor + 1) &&
              !(s.stream st).soundFaulted } ∧
          t.notice = (if soundCardGood c then s.notice else (setFlag .filmEvent s).notice) ∧
          t.readOrder = s.readOrder ++
            (if isAfter (s.stream st).soundPosted ((s.stream st).soundCursor + 1) && !(s.stream st).soundFaulted then
              [⟨.poller, s.areaAddr (0x3800 + 0x400 * streamSlot st + 32 * (((s.stream st).soundCursor + 1).toNat % 32)),
                .read (.card st .sound n ((s.stream st).soundCursor + 1)) 32⟩] else [])) ∧
      (∀ (k : ListKind) (length : Nat), s.awaits tag i (.card st k n index) length → bytes.length = length →
        (s.stream st).intake ≠ n → AnswersNext (.cardReadDone tag (.data bytes)) s
          (requestCard st k ((s.readEnded i).onStream st fun f => f.setReading k false))) ∧
      (∀ (k : ListKind) (length : Nat), s.awaits tag i (.card st k n index) length →
        s.arbiter.consecutive.get i.request.client < 15 → ∃ t, exec (.cardReadDone tag .error) s = .next t ∧
          t.stream st = ((s.stream st).setReading k false).setFaulted k true ∧ t.readOrder = s.readOrder)) ∧
  ((∀ c : FrameCard, frameCardGood c = true ↔
      (16 ≤ c.width.toNat ∧ c.width.toNat ≤ 1920 ∧ 16 ≤ c.height.toNat ∧ c.height.toNat ≤ 1080 ∧
       (c.format = 0 ∨ c.format = 1) ∧ (c.format = 0 → c.width.toNat % 2 = 0) ∧
       c.addr.toNat % 4 = 0 ∧ c.pitch.toNat % 4 = 0 ∧
       c.width.toNat * (if c.format = 0 then 2 else 4) ≤ c.pitch.toNat ∧
       1 ≤ c.duration.toNat ∧ c.duration.toNat ≤ 48000)) ∧
    (∀ c : SoundCard, soundCardGood c = true ↔
      (1 ≤ c.count.toNat ∧ c.count.toNat ≤ 4096 ∧ c.addr.toNat % 4 = 0)))

/-- An audio block end (R30, R37 to R41, R47, R48, R110, R111, R116, R118, R186): the block count advances, a new
block begins, the mixer, its status written as of the block just ended while ATTACHED (log 48), applies the inputs it has
been handed and clears its clip marks: every route's target is computed again from its level, its duck depth in CABIN
while the chime duck applies, the reverse mute in CABIN and the quiet mute, and one that changes starts a ramp from the
gain last used. A MIXER_SET that waits is answered DONE, and while ATTACHED the vehicle record, the routing record, both sound lists' posted counts, both halves
of the ask board and of the chime tray are being read, the tray's two together unless one of the last has not ended
(R122). That the voices reach their boundary after the mixer has taken its inputs, and that a block may end before its 256th sample, what of it had not come being a miss, is the model's choice (log 3). The
audio fetcher's queue holds the new block's reads alone (log 47), F0's, then F1's, then the clip samples the main voice
plays in it (R42), first those of the repetition it is in. A PRIMING stream that holds a good frame card and, in SOUND mode, a good
sound card with no done mark begins: its clock is the start pts, its PLAY is answered DONE and waits no more. Without
them it stays PRIMING with its PLAY. A stream that begins or plays, or a STARVED one with a head card, fills the next
block in SOUND mode act by act as spelled below, with the reads of the samples it takes, and starves when its cards
run dry; in FREE mode the clock advances by 256, and while PRIMING, PLAYING or PAUSED the sound cards go. Any other
block is silent and the clock holds. Then frame cards are released from the oldest on while R47 allows each, each one
bad or not shown counted dropped. -/
def Obligations.AudioBlockEnd : Prop :=
  let heads (s : State) (st : Stream) : List SoundCard := (s.stream st).sounds.dropWhile fun c => c.done
  let primed (s : State) (st : Stream) : Prop := (s.stream st).state = .priming ∧
    (∃ c ∈ (s.stream st).frames, c.good = true) ∧ ((s.stream st).mode = .free ∨ ∃ c ∈ heads s st, c.good = true)
  let clockOf (s : State) (st : Stream) : Word :=
    if primed s st then (s.stream st).startPts.getD 0 else (s.stream st).clock
  let assembly (s : State) (st : Stream) : Assembly :=
    assemble (2 * (heads s st).length + 2) ⟨[], [], clockOf s st, heads s st, (s.stream st).headOffset, 0, false⟩
  let sounds (s : State) (st : Stream) : Prop := (s.stream st).mode = .sound ∧
    (primed s st ∨ (s.stream st).state = .playing ∨ ((s.stream st).state = .starved ∧ heads s st ≠ []))
  (∀ s : State, ∃ t, exec .audioBlockEnd s = .next t ∧
    t.port = { s.port with blockCount := s.port.blockCount + 1 } ∧
    t.audio.position = 0 ∧ t.audio.serial = s.audio.serial + 1 ∧ t.audio.now = s.audio.now ∧
    t.mixer.duckApplied = s.mixer.duckHanded ∧ t.mixer.muteApplied = s.mixer.muteHanded ∧
    t.mixer.quietMute = (s.mixer.quietMute && !s.mixer.wakeMark) ∧ t.mixer.clipMark = ⟨false, false, false⟩ ∧
    t.mixer.taken = s.mixer.taken ∧ t.poller.mixerWaits = false ∧
    (s.shaped → s.poller.mixerWaits = true → (t.slot mixerSlot).result = .done) ∧
    (∀ st, (s.stream st).state = .stopped → (t.stream st).state = .stopped ∧ (t.stream st).block = [] ∧
      (t.stream st).clock = (s.stream st).clock) ∧
    (s.port.attached = true → t.reading .vehicle = true ∧ t.reading .routing = true ∧
      t.reading (.askBoard false) = true ∧ t.reading (.askBoard true) = true ∧
      t.reading (.postedCounts .sound) = true ∧
      (let trays (x : State) := x.readOrder.filter fun r => r.reads (.tray false) || r.reads (.tray true)
       trays t = trays s ++ (if s.reading (.tray false) = true ∨ s.reading (.tray true) = true then [] else
        [⟨.poller, s.areaAddr 0x4000, .read (.tray false) 256⟩, ⟨.poller, s.areaAddr 0x4100, .read (.tray true) 256⟩]))) ∧
    (s.port.attached = false → t.readOrder = s.readOrder) ∧
    (∀ r, let x := s.route r
      let target : Nat := match x.level with
        | none => 0
        | some l =>
          if (r.zone = .cabin ∧ s.mixer.muteHanded = true) ∨ (s.mixer.quietMute = true ∧ s.mixer.wakeMark = false) then 0
          else gainOf (l + if r.zone = .cabin ∧ s.mixer.duckHanded = true then x.duck else 0)
      t.route r = if target = x.target then x else { x with target := target, ramp := some ⟨x.gain, target, 0⟩ }) ∧
    t.mixer.wakeMark = false ∧ t.mixer.clips = s.mixer.clips ∧ t.mixer.output = s.mixer.output ∧
    t.mixer.shown = (if s.port.attached then mixerReport s.mixer else s.mixer.shown) ∧
    t.chime.clipMissed = false ∧ t.chime.clipMisses = s.chime.clipMisses ∧ t.chime.clipGot = [] ∧
    (let film (st : Stream) : List Request := if sounds s st then
        (assembly s st).reads.flatMap fun r => (requestsOf r.2.1 (4 * r.2.2)).map fun q =>
          ⟨.audio, q.1, .read (.soundSamples st t.audio.serial (r.1 + (q.1 - r.2.1).toNat / 4)) q.2⟩
      else []
     let clip (x : Chime) (done place n : Nat) : List Request := match x.program with
      | .tone _ _ _ => []
      | .clip addr count =>
        let start := addr + BitVec.ofNat 64 (2 * place)
        (requestsOf start (2 * min n (count - place))).map fun q => ⟨.audio, q.1,
          .read (.clipSamples t.audio.serial x.take done (place + (q.1 - start).toNat / 2)) q.2⟩
     ∃ clips, t.audio.queue = film .f0 ++ film .f1 ++ clips ∧
      (∀ r ∈ clips, ∃ take done place n, r.work = .read (.clipSamples t.audio.serial take done place) n) ∧
      (s.port.attached = false ∨ t.chime.voice = .idle → clips = []) ∧
      (∀ v m, s.port.attached = true → v.mark ≠ .forgotten → v.ended = false → t.chime.clipEnded ≠ some v.chime.take →
        (t.chime.voice = .sounding v → clip v.chime v.chime.done v.position 256 <+: clips) ∧
        (t.chime.voice = .releasing v m → clip v.chime v.chime.done v.position (min 256 (240 - m)) <+: clips)) ∧
      (∀ v addr count, s.port.attached = true → t.chime.voice = .sounding v → v.mark = .none → v.ended = false →
        t.chime.clipEnded ≠ some v.chime.take → v.chime.program = .clip addr count →
        (v.chime.repeats = 255 ∨ v.chime.done + 1 < v.chime.repeats) → t.chime.waiting = [] →
        clip v.chime v.chime.done v.position 256 ++
          clip v.chime (v.chime.done + 1) 0 (256 - (count - v.position)) <+: clips)) ∧
    (∀ st, let f := s.stream st
      let g := t.stream st
      let live := f.sounds.dropWhile fun c => c.done
      let released := f.soundReleased + wordOfNat (f.sounds.takeWhile fun c => c.done).length
      let begins := primed s st
      let start := clockOf s st
      let a := assembly s st
      let h := { f with state := g.state, clock := g.clock }
      g.clockShown = g.clock ∧ g.blockMissed = false ∧
      g.misses = f.misses + (if f.blockMissed = false ∧ Place.want ∈ f.block.drop s.audio.position then 1 else 0) ∧
      (begins → g.startPts = none ∧ g.waitingPlay = none ∧ t.notice.cause.getLsbD 0 = true ∧ (s.shaped →
        t.slot (streamSlot st) = { s.slot (streamSlot st) with result := .done, blockCount := s.port.blockCount + 1 })) ∧
      (¬begins → g.startPts = f.startPts ∧ g.waitingPlay = f.waitingPlay ∧
        t.slot (streamSlot st) = s.slot (streamSlot st)) ∧
      (sounds s st →
        g.block = a.places ∧ g.clock = a.clock ∧ g.sounds = a.sounds ∧ g.headOffset = a.head ∧
        g.soundReleased = released + wordOfNat a.released ∧ g.state = (if a.dry then .starved else .playing) ∧
        g.starves = f.starves + (if a.dry then 1 else 0) ∧ (a.dry = true → t.notice.cause.getLsbD 1 = true)) ∧
      (f.mode = .sound → (f.state = .paused ∨ (f.state = .starved ∧ live = []) ∨ (f.state = .priming ∧ ¬begins)) →
        g.block = [] ∧ g.clock = f.clock ∧ g.state = f.state ∧ g.sounds = live ∧ g.soundReleased = released ∧
        g.headOffset = f.headOffset ∧ g.starves = f.starves) ∧
      (f.mode = .free → (f.state = .playing ∨ f.state = .paused ∨ f.state = .priming) →
        g.block = [] ∧ g.clock = start + (if begins ∨ f.state = .playing then 256 else 0) ∧
        g.state = (if begins then .playing else f.state) ∧ g.sounds = [] ∧ g.starves = f.starves ∧
        g.soundReleased = f.soundReleased + wordOfNat f.sounds.length) ∧
      g.frames = h.release.frames ∧ g.frameReleased = h.release.frameReleased ∧ g.dropped = h.release.dropped ∧
      g.current = f.current) ∧
    t.composers = s.composers ∧ t.capture = s.capture ∧ t.guide = s.guide ∧ t.reverse = s.reverse ∧
    (∀ a, t.memory.read a = s.memory.read a)) ∧
  (∀ (a : Assembly) (card : SoundCard) (rest : List SoundCard),
    let room := 256 - a.places.length
    let ahead := (card.pts - a.clock).toNat
    let late := (a.clock - card.pts).toNat
    let marked := a.sounds.takeWhile fun c => c.done
    let gone := if marked = [] then { a with sounds := rest, head := 0, released := a.released + 1 }
      else { a with sounds := marked ++ { card with done := true } :: rest, head := 0 }
    let n := min (card.count.toNat - a.head) room
    (card.good = false → a.act card rest = gone) ∧
    (card.good = true → a.head = 0 → 1 ≤ ahead → ahead < 2147483648 → a.act card rest = { a with
      places := a.places ++ List.replicate (min ahead room) .silence
      clock := a.clock + wordOfNat (min ahead room) }) ∧
    (card.good = true → a.head = 0 → 2147483648 ≤ ahead →
      a.act card rest = if card.count.toNat ≤ late then gone else { a with head := late }) ∧
    (card.good = true → (a.head ≠ 0 ∨ ahead = 0) →
      let spent := card.count.toNat ≤ a.head + n
      a.act card rest = { a with
        places := a.places ++ List.replicate n .want
        reads := a.reads ++ [(a.places.length, card.addr + BitVec.ofNat 64 (4 * a.head), n)]
        clock := a.clock + wordOfNat n
        sounds := if spent then marked ++ { card with done := true } :: rest else a.sounds
        head := if spent then 0 else a.head + n })) ∧
  (∀ (fuel : Nat) (a : Assembly), assemble (fuel + 1) a =
    if 256 ≤ a.places.length then a
    else match a.sounds.dropWhile fun c => c.done with
      | [] => { a with dry := true }
      | card :: rest => assemble fuel (a.act card rest)) ∧
  (∀ f : Film,
    (f.state = .stopped ∨ f.state = .priming → f.release = f) ∧
    (∀ c, f.mayRelease c = true ↔ (c.good = false ∨ ((∀ d, f.current.get d ≠ some c.index) ∧
      ∃ x, f.frames.find? (fun y => y.index == c.index + 1) = some x ∧ (x.good = false ∨ notAfter x.pts f.clock = true)))) ∧
    ∃ n, n ≤ f.frames.length ∧ f.release.frames = f.frames.drop n ∧
      (∀ k c, k < n → f.frames[k]? = some c → { f with frames := f.frames.drop k }.mayRelease c = true) ∧
      f.release.frameReleased = f.frameReleased + wordOfNat n ∧
      f.release.dropped = f.dropped +
        wordOfNat ((f.frames.take n).countP fun c => !c.good || !c.shown) ∧
      (f.state = .playing ∨ f.state = .paused ∨ f.state = .starved →
        ∀ c, f.release.frames.head? = some c → f.release.mayRelease c = false))

/-- A request of the audio fetcher completes (R42, R135): sound samples of the block being output fill the places
still wanted from the read's place on, the left sample first, and no other place; clip samples of that block join
those fetched, with the take, the repetition and the place each is for. Samples of an earlier block are discarded. -/
def Obligations.AudioFetch : Prop :=
  (∀ (s : State) (tag : Nat) (i : Issued) (st : Stream) (n k length : Nat) (bytes : List Byte),
    s.awaits tag i (.soundSamples st n k) length → bytes.length = length →
    (n ≠ s.audio.serial → AnswersNext (.audioFetchDone tag (.data bytes)) s (s.readEnded i)) ∧
    (n = s.audio.serial → ∃ b, AnswersNext (.audioFetchDone tag (.data bytes)) s
        ((s.readEnded i).onStream st fun f => { f with block := b }) ∧
      b.length = (s.stream st).block.length ∧
      ∀ j, j < b.length → b.getD j .silence =
        (if (s.stream st).block.getD j .silence = .want ∧ k ≤ j ∧ j < k + length / 4 then
          .got (halfAt bytes (4 * (j - k))) (halfAt bytes (4 * (j - k) + 2))
        else (s.stream st).block.getD j .silence))) ∧
  (∀ (s : State) (tag : Nat) (i : Issued) (n take repetition k length : Nat) (bytes : List Byte),
    s.awaits tag i (.clipSamples n take repetition k) length → bytes.length = length →
    (n ≠ s.audio.serial → AnswersNext (.audioFetchDone tag (.data bytes)) s (s.readEnded i)) ∧
    (n = s.audio.serial → AnswersNext (.audioFetchDone tag (.data bytes)) s
      { s.readEnded i with chime := { s.chime with
        clipGot := s.chime.clipGot ++ (List.range (length / 2)).map fun j =>
          ⟨take, repetition, k + j, halfAt bytes (2 * j)⟩ } }))

/-! ## The camera capture unit (chapter 3) -/

/-- A frame start code (R56, R61, R62, R63, R65, R68, R80, R86). In ARMED or LOST, and in CAPTURING when the decimation
counter has reached the factor, with no frame or an ignored one open, it opens a kept frame: expected line 0, the
decimation counter 0, the loss timer at 100 ms (4800 sample periods), the store writer a consumer while stores are in
use, the state CAPTURING; an idle writer chooses the lowest store that is neither published nor read by FRONT; with
guide demand and a kept geometry a computation starts on the inputs of the moment. Otherwise in CAPTURING the frame is
ignored and counted. A kept frame open in CAPTURING is closed first, its verdict fixed: without the writer, or with no
line of it left to write, it completes, counted, spoiled also where a write of it has faulted (R69), and a whole one is
delivered and, of the writer, published; with lines still to write it waits closed ahead of the frame the code opens,
which then has no target store yet. In OFF, POWERING,
SETUP and FAULT, and in STOPPING without an open kept frame, the code is discarded; that it leaves the loss timer alone
there, and that a kept frame holds the camera record of its code, are the model's readings (log 25). -/
def Obligations.FrameStartCode : Prop :=
  (∀ (number : Byte) (s : State), (s.capture.state = .armed ∨ s.capture.state = .lost ∨
      (s.capture.state = .capturing ∧ (∀ id, s.capture.openFrame ≠ .kept id) ∧
        s.capture.decimation = s.capture.record.decimation)) → s.locksFront = false →
    ∃ t f, exec (.frameStartCode number) s = .next t ∧
      t.capture.state = .capturing ∧ t.capture.lossTimer = some 4800 ∧ t.capture.decimation = 0 ∧
      t.capture.openFrame = .kept s.capture.nextFrame ∧ t.capture.nextFrame = s.capture.nextFrame + 1 ∧
      t.capture.frames.length = s.capture.frames.length + 1 ∧ t.capture.frames.getLast? = some f ∧
      f.id = s.capture.nextFrame ∧ f.number = number ∧ f.expected = 0 ∧ f.missing = 0 ∧ f.suspect = 0 ∧
      f.overrun = false ∧ f.closed = false ∧ f.faulted = false ∧ f.toFront = false ∧ f.toWriter = s.storesInUse ∧
      f.record = s.capture.record ∧ (s.capture.frames = [] → s.storesInUse = true → ∃ n, f.target = some n ∧ n < 3 ∧
        (∀ p, s.capture.published = some p → p.store ≠ n) ∧ s.capture.frontReading ≠ some n ∧
        ∀ m, m < n → (∃ p, s.capture.published = some p ∧ p.store = m) ∨ s.capture.frontReading = some m) ∧
      (s.capture.state = .capturing → t.notice = s.notice) ∧
      (s.capture.state ≠ .capturing → t.notice = (setFlag .cameraChange s).notice) ∧
      (∀ g, s.capture.geometry = some g → s.guide.demand = true → t.guide.inFlight = some
        { kind := s.guide.freshness.kind, angle := s.guide.angle, nearest := s.guide.freshNearest, geometry := g,
          camW := s.capture.record.width, camH := s.capture.record.height, view := s.capture.record.view }) ∧
      ((s.capture.geometry = none ∨ s.guide.demand = false) → t.guide.inFlight = none) ∧
      t.guide.shown = s.guide.shown ∧ t.capture.published = s.capture.published ∧
      t.capture.buffer = s.capture.buffer ∧ t.composers = s.composers ∧ t.reverse = s.reverse ∧ t.mixer = s.mixer ∧
      t.port = s.port) ∧
  (∀ (number : Byte) (s : State), s.capture.state = .capturing → (∀ id, s.capture.openFrame ≠ .kept id) →
    s.capture.decimation ≠ s.capture.record.decimation →
    AnswersNext (.frameStartCode number) s { s with capture := { s.capture with
      lossTimer := some 4800
      openFrame := .ignored number
      decimation := s.capture.decimation + 1
      ignored := s.capture.ignored + 1 } }) ∧
  (∀ (number : Byte) (s : State) (f : KeptFrame), s.capture.state = .capturing → s.capture.openFrame = .kept f.id →
    s.capture.frames = [f] →
    let rest := s.capture.record.height - f.expected
    let verdict := f.missing + rest ≠ 0 ∨ s.capture.record.threshold < f.suspect ∨ f.overrun = true
    let bad := verdict ∨ f.faulted = true
    let keeps := s.capture.decimation = s.capture.record.decimation
    let follows (t : State) : Prop := t.capture.state = .capturing ∧ t.capture.lossTimer = some 4800 ∧
      t.capture.missingLines = s.capture.missingLines + wordOfNat rest ∧
      t.capture.openFrame = (if keeps then .kept s.capture.nextFrame else .ignored number) ∧
      t.capture.ignored = s.capture.ignored + (if keeps then 0 else 1) ∧
      t.capture.decimation = (if keeps then 0 else s.capture.decimation + 1) ∧ t.port = s.port
    let opens (x : KeptFrame) : Prop := x.id = s.capture.nextFrame ∧ x.number = number ∧ x.expected = 0 ∧
      x.closed = false ∧ x.toWriter = s.storesInUse ∧ x.record = s.capture.record
    let completes (t : State) : Prop := follows t ∧
      (if keeps then ∃ x, t.capture.frames = [x] ∧ opens x else t.capture.frames = []) ∧
      t.capture.whole = s.capture.whole + (if bad then 0 else 1) ∧
      t.capture.spoiled = s.capture.spoiled + (if bad then 1 else 0) ∧
      t.capture.history = (if bad then .bad else .whole) :: s.capture.history.take 7
    (f.toWriter = false → ∃ t, exec (.frameStartCode number) s = .next t ∧ completes t ∧
      t.capture.published = s.capture.published ∧
      (¬bad → f.toFront = true → ViewDelivered true s t) ∧
      (bad ∨ f.toFront = false → t.reverse = s.reverse ∧ t.mixer = s.mixer)) ∧
    (∀ n, f.toWriter = true → f.target = some n → (∀ l ∈ s.capture.buffer, l.forWriter = false) →
      s.arbiter.path = none → ∃ t, exec (.frameStartCode number) s = .next t ∧ completes t ∧
        t.capture.published = (if bad then s.capture.published else some ⟨n, f.number⟩) ∧
        t.capture.publications = s.capture.publications + (if bad then 0 else 1) ∧
        (¬bad → ViewDelivered true s t) ∧ (bad → t.reverse = s.reverse ∧ t.mixer = s.mixer)) ∧
    (f.toWriter = true → f.target ≠ none → (∃ l ∈ s.capture.buffer, l.frame = f.id ∧ l.forWriter = true) →
      f.id < s.capture.nextFrame → ∃ t, exec (.frameStartCode number) s = .next t ∧ follows t ∧
        (∃ later, t.capture.frames =
            { f with missing := f.missing + rest, closed := true, spoiled := decide verdict } :: later ∧
          if keeps then ∃ x, later = [x] ∧ opens x ∧ x.target = none else later = []) ∧
        t.capture.whole = s.capture.whole ∧ t.capture.spoiled = s.capture.spoiled ∧
        t.capture.history = s.capture.history ∧ t.capture.published = s.capture.published ∧
        t.reverse = s.reverse ∧ t.mixer = s.mixer)) ∧
  (∀ (number : Byte) (s : State), (s.capture.state = .off ∨ s.capture.state = .powering ∨ s.capture.state = .setup ∨
      s.capture.state = .fault ∨ (s.capture.state = .stopping ∧ ∀ id, s.capture.openFrame ≠ .kept id)) →
    AnswersNext (.frameStartCode number) s s)

/-- A line packet of an open kept frame (R54, R65, R66). Out of order it is one missing line; skipped numbers are each
a missing line; a line in order of the wrong length is missing, one whose check differs is suspect, and a good or
suspect line enters the line buffer for the frame's consumers, or is lost with an overrun when the buffer holds 8: for
the writer unless a write of the frame has faulted (R69), for FRONT when one of its lines still to come needs the row
(R160). The counts of the frame and of the page go together, and an earlier frame still to be written stays as it is.
That a line the writer takes counts for the half mark until it leaves the buffer is the model's reading (log 42).
Without an open kept frame a packet is discarded (R53). -/
def Obligations.LinePacket : Prop :=
  (∀ (line : BitVec 12) (payload : List Byte) (check : Half) (s : State) (id : Nat) (f : KeptFrame)
    (earlier : List KeptFrame), s.camPwr = true → s.capture.openFrame = .kept id → s.capture.frames = earlier ++ [f] →
    f.id = id → (∀ x ∈ earlier, x.id ≠ id) →
    let n := line.toNat
    let inOrder := f.expected ≤ n ∧ n < s.capture.record.height
    let right := payload.length = 2 * s.capture.record.width
    let missing := if inOrder then (n - f.expected) + (if right then 0 else 1) else 1
    let suspect := if inOrder ∧ right ∧ lineCheck payload ≠ check then 1 else 0
    let offered := inOrder ∧ right ∧ (f.toWriter = true ∨ f.toFront = true)
    let forWriter := f.toWriter && !f.faulted
    let forFront := f.toFront && frontUses s id n
    AnswersNext (.linePacket line payload check) s { s with capture := { s.capture with
      frames := earlier ++ [{ f with
        expected := if inOrder then n + 1 else f.expected
        missing := f.missing + missing
        suspect := f.suspect + suspect
        overrun := f.overrun || decide (offered ∧ 8 ≤ s.capture.buffer.length) }]
      missingLines := s.capture.missingLines + wordOfNat missing
      suspectLines := s.capture.suspectLines + wordOfNat suspect
      overruns := s.capture.overruns + (if offered ∧ 8 ≤ s.capture.buffer.length then 1 else 0)
      buffer := if offered ∧ s.capture.buffer.length < 8 then
          (s.capture.buffer ++ [BufLine.mk id n payload forWriter forFront 0 forWriter]).filter fun l =>
            l.forWriter || l.forFront
        else s.capture.buffer } }) ∧
  (∀ (line : BitVec 12) (payload : List Byte) (check : Half) (s : State),
    (s.camPwr = false ∨ ∀ id, s.capture.openFrame ≠ .kept id) → AnswersNext (.linePacket line payload check) s s) ∧
  (∀ payload : List Byte, lineCheck payload =
    (payload.flatMap fun b => [7, 6, 5, 4, 3, 2, 1, 0].map b.getLsbD).foldl
      (fun (r : Half) (bit : Bool) => (r <<< 1) ^^^ (if r.getLsbD 15 = bit then 0 else 0x1021#16)) 0xFFFF#16)

/-- The ends of a frame. A frame end code in CAPTURING closes the open kept frame, the lines never sent counted missing;
spoiled when any line is missing, the suspect lines exceed the threshold or the overrun mark is set (R55), and when a
write of it has faulted, which spoils it at its completion (R69, R70). Without the
writer it completes at once: whole or spoiled is counted and enters the history, POOR set at four BAD and cleared at two
(R72). With lines still to write it waits closed; with none it completes, and a whole one's store is published, a
spoiled one's not. A frame end code in any other state, and in STOPPING without an open kept frame, is discarded (R53,
R61, R63). In STOPPING a frame end code and a frame start code both close the open kept frame, the loss timer stops,
and the camera is OFF once the frame is complete (R53, R63), or on in POWERING when it is needed then; a whole frame that
FRONT has taken or whose store is published is delivered first. The loss timer's expiry in ARMED or CAPTURING loses the camera: the open
frame is given up, the loss counted, a BAD entry shifted in, the state LOST, and the reverse view loses its camera (R56,
R146, R148, R150); in STOPPING it gives the frame up, counts the loss and moves to OFF, or on to POWERING when the
camera is needed, the delivery mark clear. A whole frame that FRONT has taken, or that is published, is delivered to the
reverse view (R146, R148, R149). The command for a timer that does not run changes nothing (the model's choice, log 14).
-/
def Obligations.FrameEnds : Prop :=
  let poor (h : List FrameMark) (before : Bool) : Bool :=
    if 4 ≤ h.count .bad then true else if h.count .bad ≤ 2 then false else before
  let verdict (s : State) (f : KeptFrame) : Bool :=
    decide (f.missing + (s.capture.record.height - f.expected) ≠ 0 ∨ s.capture.record.threshold < f.suspect) || f.overrun
  let spoiled (s : State) (f : KeptFrame) : Bool := verdict s f || f.faulted
  (∀ (s : State) (f : KeptFrame), s.capture.state = .capturing → s.capture.openFrame = .kept f.id →
    s.capture.frames = [f] →
    let rest := s.capture.record.height - f.expected
    (f.toWriter = false → ∃ t, exec .frameEndCode s = .next t ∧
      t.capture.state = .capturing ∧ t.capture.openFrame = .none ∧ t.capture.frames = [] ∧
      t.capture.missingLines = s.capture.missingLines + wordOfNat rest ∧
      t.capture.whole = s.capture.whole + (if spoiled s f then 0 else 1) ∧
      t.capture.spoiled = s.capture.spoiled + (if spoiled s f then 1 else 0) ∧
      t.capture.history = (if spoiled s f then .bad else .whole) :: s.capture.history.take 7 ∧
      t.capture.poor = poor t.capture.history s.capture.poor ∧ t.capture.published = s.capture.published ∧
      t.capture.lossTimer = s.capture.lossTimer ∧ t.film = s.film ∧ t.port = s.port ∧
      (spoiled s f = false → f.toFront = true → ViewDelivered true s t) ∧
      (spoiled s f = true ∨ f.toFront = false → t.reverse = s.reverse ∧ t.mixer = s.mixer)) ∧
    (f.toWriter = true → f.target ≠ none → (∃ l ∈ s.capture.buffer, l.frame = f.id ∧ l.forWriter = true) →
      ∃ t, exec .frameEndCode s = .next t ∧ t.capture = { s.capture with
        openFrame := .none
        missingLines := s.capture.missingLines + wordOfNat rest
        frames := [{ f with missing := f.missing + rest, closed := true, spoiled := verdict s f }] } ∧
        t.notice = s.notice ∧ t.reverse = s.reverse) ∧
    (∀ n, f.toWriter = true → f.target = some n → (∀ l ∈ s.capture.buffer, l.forWriter = false) →
      s.arbiter.path = none → ∃ t, exec .frameEndCode s = .next t ∧ t.capture.state = .capturing ∧
        t.capture.openFrame = .none ∧ t.capture.frames = [] ∧
        t.capture.whole = s.capture.whole + (if spoiled s f then 0 else 1) ∧
        t.capture.spoiled = s.capture.spoiled + (if spoiled s f then 1 else 0) ∧
        t.capture.published = (if spoiled s f then s.capture.published else some ⟨n, f.number⟩) ∧
        t.capture.publications = s.capture.publications + (if spoiled s f then 0 else 1) ∧
        (spoiled s f = false → ViewDelivered true s t) ∧ (spoiled s f = true → t.reverse = s.reverse) ∧
        t.film = s.film ∧ t.port = s.port)) ∧
  (∀ (s : State) (f : KeptFrame) (c : Instr), (c = .frameEndCode ∨ ∃ number, c = .frameStartCode number) →
    s.capture.state = .stopping → s.capture.openFrame = .kept f.id → s.capture.frames = [f] →
    let rest := s.capture.record.height - f.expected
    (f.toWriter = false ∨ (f.target ≠ none ∧ (∀ l ∈ s.capture.buffer, l.forWriter = false) ∧ s.arbiter.path = none) →
      let delivers := spoiled s f = false ∧ (f.toWriter = true ∨ f.toFront = true)
      let needed := s.cameraNeeded = true ∨ (delivers ∧ (s.reverse.view = .waking ∨ s.reverse.view = .unavailable))
      ∃ t, exec c s = .next t ∧
      t.capture.state = (if needed then .powering else .off) ∧ t.camPwr = decide needed ∧
      t.capture.settleTimer = (if needed then some 2400 else none) ∧
      t.capture.openFrame = .none ∧ t.capture.frames = [] ∧
      t.capture.missingLines = s.capture.missingLines + wordOfNat rest ∧
      t.capture.whole = s.capture.whole + (if spoiled s f then 0 else 1) ∧
      t.capture.spoiled = s.capture.spoiled + (if spoiled s f then 1 else 0) ∧
      t.capture.publications = s.capture.publications + (if f.toWriter ∧ spoiled s f = false then 1 else 0) ∧
      t.capture.lossTimer = none ∧ t.capture.published = none ∧ t.capture.nextFrame = s.capture.nextFrame ∧
      (delivers → ViewDelivered false s t) ∧ (¬delivers → t.reverse = { s.reverse with delivered := false }) ∧
      t.film = s.film ∧ t.port = s.port) ∧
    (f.toWriter = true → f.target ≠ none → (∃ l ∈ s.capture.buffer, l.frame = f.id ∧ l.forWriter = true) →
      ∃ t, exec c s = .next t ∧ t.capture = { s.capture with
        openFrame := .none
        lossTimer := none
        missingLines := s.capture.missingLines + wordOfNat rest
        frames := [{ f with missing := f.missing + rest, closed := true, spoiled := verdict s f }] } ∧
        t.notice = s.notice ∧ t.reverse = s.reverse)) ∧
  (∀ s : State, (∀ id, s.capture.openFrame ≠ .kept id) → s.capture.state = .capturing →
    AnswersNext .frameEndCode s { s with capture := { s.capture with openFrame := .none } }) ∧
  (∀ s : State, s.capture.state ≠ .capturing →
    (s.capture.state = .stopping → ∀ id, s.capture.openFrame ≠ .kept id) → AnswersNext .frameEndCode s s) ∧
  (∀ s : State, s.capture.lossTimer ≠ none → (s.capture.state = .armed ∨ s.capture.state = .capturing) →
    ∃ t, exec .lossTimerExpiry s = .next t ∧ t.capture.state = .lost ∧ t.capture.lossTimer = none ∧
      t.capture.losses = s.capture.losses + 1 ∧ t.capture.openFrame = .none ∧
      t.capture.history = .bad :: s.capture.history.take 7 ∧
      t.capture.poor = poor t.capture.history s.capture.poor ∧ ViewLosesCamera s t ∧
      t.capture.whole = s.capture.whole ∧ t.capture.spoiled = s.capture.spoiled ∧
      t.capture.published = s.capture.published ∧ t.port = s.port ∧ t.film = s.film) ∧
  (∀ s : State, s.capture.lossTimer ≠ none → s.capture.state = .stopping →
    ∃ t, exec .lossTimerExpiry s = .next t ∧ t.capture.state = (if s.cameraNeeded then .powering else .off) ∧
      t.camPwr = s.cameraNeeded ∧ t.capture.lossTimer = none ∧
      t.capture.losses = s.capture.losses + 1 ∧ t.capture.openFrame = .none ∧ t.capture.published = none ∧
      t.reverse = { s.reverse with delivered := false } ∧
      t.capture.whole = s.capture.whole ∧ t.capture.spoiled = s.capture.spoiled ∧ t.port = s.port ∧ t.film = s.film) ∧
  (∀ s : State, s.capture.lossTimer = none → AnswersNext .lossTimerExpiry s s)

/-- The power-up and the setup script (R58, R59, R60, R61). When the settle timer expires an empty script arms the
camera and any other begins at step 0, the script fault cleared; the end of a WAIT and an acknowledged WRITE go on
with the next step. A WRITE sends the device address with the write direction, the register address high byte first,
and the data; a WAIT of d ms starts a timer of 48 d sample periods; past the last step the camera is ARMED with the
loss timer at 100 ms. A WRITE that fails puts the camera in FAULT with its step and reason, and the reverse view loses
its camera (R146, R148, R150). After a drop of the need during a WRITE its outcome is not acted on: the script goes on
when the need has risen again, and otherwise the camera is OFF. The command for a settle timer that does not run, or
for a transaction when there is none, changes nothing (the model's choice, log 14). -/
def Obligations.SetupScript : Prop :=
  let at_ (s : State) (n : Nat) : State := match s.capture.script[n]? with
    | none => setFlag .cameraChange { s with capture := { s.capture with
        scriptStep := n, state := .armed, lossTimer := some 4800 } }
    | some (.write device register bytes) => { s with capture := { s.capture with
        scriptStep := n
        i2c := some ([device <<< 1, register.extractLsb' 8 8, register.extractLsb' 0 8] ++ bytes) } }
    | some (.wait d) => { s with capture := { s.capture with scriptStep := n, stepTimer := some (48 * d) } }
  let fails (s : State) (c : Instr) (r : ScriptFault) : Prop := ∃ t, exec c s = .next t ∧
    t.capture.state = .fault ∧ t.capture.faultStep = some s.capture.scriptStep ∧ t.capture.faultReason = r ∧
    t.capture.i2c = none ∧ t.camPwr = false ∧ ViewLosesCamera s t ∧ t.port = s.port
  (∀ s : State, s.capture.state = .powering → s.capture.settleTimer ≠ none → s.capture.script = [] →
    AnswersNext .settleExpiry s (setFlag .cameraChange { s with capture := { s.capture with
      settleTimer := none, state := .armed, lossTimer := some 4800 } })) ∧
  (∀ s : State, s.capture.state = .powering → s.capture.settleTimer ≠ none → s.capture.script ≠ [] →
    AnswersNext .settleExpiry s (at_ (setFlag .cameraChange { s with capture := { s.capture with
      settleTimer := none, state := .setup, faultStep := none, faultReason := .none } }) 0)) ∧
  (∀ s : State, s.capture.settleTimer = none → AnswersNext .settleExpiry s s) ∧
  (∀ s : State, s.capture.state = .setup → s.capture.stepTimer ≠ none →
    AnswersNext .waitStepExpiry s
      (at_ { s with capture := { s.capture with stepTimer := none } } (s.capture.scriptStep + 1))) ∧
  (∀ s : State, s.capture.state = .setup → s.capture.i2c ≠ none → s.capture.dropWaits = false →
    AnswersNext (.i2cWriteDone .acknowledged) s
      (at_ { s with capture := { s.capture with i2c := none } } (s.capture.scriptStep + 1)) ∧
    fails s (.i2cWriteDone .nackAddress) .nackAddress ∧ fails s (.i2cWriteDone .nackData) .nackData ∧
    fails s .busTimeout .busTimeout) ∧
  (∀ (s : State) (c : Instr), s.capture.state = .setup → s.capture.i2c ≠ none → s.capture.dropWaits = true →
    c ∈ [Instr.i2cWriteDone .acknowledged, .i2cWriteDone .nackAddress, .i2cWriteDone .nackData, .busTimeout] →
    (s.cameraNeeded = true → AnswersNext c s (at_ { s with capture := { s.capture with
      i2c := none, dropWaits := false } } (s.capture.scriptStep + 1))) ∧
    (s.cameraNeeded = false → ∃ t, exec c s = .next t ∧ t.capture.state = .off ∧ t.camPwr = false ∧
      t.capture.i2c = none ∧ t.capture.dropWaits = false ∧ t.capture.faultStep = s.capture.faultStep ∧
      t.capture.faultReason = s.capture.faultReason ∧ t.port = s.port)) ∧
  (∀ (s : State) (c : Instr), s.capture.i2c = none → c ∈ [Instr.i2cWriteDone .acknowledged, .i2cWriteDone .nackAddress,
    .i2cWriteDone .nackData, .busTimeout] → AnswersNext c s s)

/-- CAMERA_ON and CAMERA_OFF (R57, R58, R59, R61, R62, R63, R74, R152). ON sets the asked-on mark with DONE; a need that
rises with it in OFF raises CAM_PWR, with the settle timer at 50 ms, in POWERING, in STOPPING with the kept frame still
open goes back to CAPTURING, and leaves any other state, STOPPING after the close among them. OFF clears the mark with
DONE; a need that drops with it takes a camera with no kept frame to OFF, in SETUP at once during a WAIT and at the end
of the transaction during a WRITE; with a kept frame open or not complete CAPTURING becomes STOPPING, an ignored frame
discarded and the loss timer stopped unless a kept one is open, and a camera in STOPPING, its need risen again after the
close, stays there to wait for the completion. A need that stays leaves the camera. In LINGER the view
goes OFF first, its timer stopped and every output dropped. A nonzero parameter word is answered REFUSED_FIELD. -/
def Obligations.CameraOnAndOff : Prop :=
  let leaves (s : State) : Prop := s.capture.state = .powering ∨ s.capture.state = .armed ∨ s.capture.state = .lost ∨
    s.capture.state = .fault ∨ (s.capture.state = .capturing ∧ s.capture.frames = []) ∨
    (s.capture.state = .setup ∧ s.capture.i2c = none)
  (∀ (q : Word) (p : List Word) (s : State), s.mayTake cameraSlot q →
    (noParams p → s.cameraNeeded = false → s.port.quiet = false → s.capture.state = .off →
      AnswersNext (.cameraOn q p) s (takeAsk cameraSlot q .done (setFlag .cameraChange { s with
        capture := { s.capture with askedOn := true, settleTimer := some 2400, state := .powering } }))) ∧
    (noParams p → (s.cameraNeeded = true ∨ s.port.quiet = true) →
      AnswersNext (.cameraOn q p) s (takeAsk cameraSlot q .done { s with
        capture := { s.capture with askedOn := true } })) ∧
    (noParams p → s.cameraNeeded = false → s.port.quiet = false → s.capture.state = .stopping →
      s.capture.openKept = true →
      AnswersNext (.cameraOn q p) s (takeAsk cameraSlot q .done (setFlag .cameraChange { s with
        capture := { s.capture with askedOn := true, state := .capturing } }))) ∧
    (noParams p → s.cameraNeeded = false → s.port.quiet = false → s.capture.state ≠ .off →
      (s.capture.state = .stopping → s.capture.openKept = false) →
      AnswersNext (.cameraOn q p) s (takeAsk cameraSlot q .done { s with
        capture := { s.capture with askedOn := true } })) ∧
    (noParams p → s.reverse.view ≠ .linger → (s.capture.hold = true ∨ s.cameraNeeded = false) →
      AnswersNext (.cameraOff q p) s (takeAsk cameraSlot q .done { s with
        capture := { s.capture with askedOn := false } })) ∧
    (noParams p → s.shaped → s.reverse.view ≠ .linger → s.capture.hold = false → s.cameraNeeded = true →
      leaves s → ∃ t, exec (.cameraOff q p) s = .next t ∧ t.capture.askedOn = false ∧ t.capture.state = .off ∧
        t.camPwr = false ∧ t.capture.settleTimer = none ∧ t.capture.stepTimer = none ∧ t.capture.lossTimer = none ∧
        t.capture.openFrame = .none ∧
        t.capture.published = none ∧ t.capture.history = List.replicate 8 .empty ∧ t.capture.poor = false ∧
        t.capture.record = s.capture.record ∧ t.reverse.delivered = false ∧
        t.slot cameraSlot = ⟨q, none, q, .done, s.port.blockCount⟩ ∧ t.port = s.port ∧ t.film = s.film) ∧
    (noParams p → s.reverse.view ≠ .linger → s.capture.hold = false → s.cameraNeeded = true →
      s.capture.state = .setup → s.capture.i2c ≠ none →
      AnswersNext (.cameraOff q p) s (takeAsk cameraSlot q .done { s with
        capture := { s.capture with askedOn := false, dropWaits := true } })) ∧
    (noParams p → s.reverse.view ≠ .linger → s.capture.hold = false → s.cameraNeeded = true →
      (s.capture.state = .stopping ∨ s.capture.state = .off) →
      AnswersNext (.cameraOff q p) s (takeAsk cameraSlot q .done { s with
        capture := { s.capture with askedOn := false } })) ∧
    (noParams p → s.reverse.view ≠ .linger → s.capture.hold = false → s.cameraNeeded = true →
      s.capture.state = .capturing → s.capture.frames ≠ [] →
      AnswersNext (.cameraOff q p) s (takeAsk cameraSlot q .done (setFlag .cameraChange { s with
        capture := { s.capture with
          askedOn := false
          state := .stopping
          openFrame := if s.capture.openKept then s.capture.openFrame else .none
          lossTimer := if s.capture.openKept then s.capture.lossTimer else none } }))) ∧
    (noParams p → s.shaped → s.reverse.view = .linger → ∃ t, exec (.cameraOff q p) s = .next t ∧
      t.capture.askedOn = false ∧ t.capture.hold = false ∧ t.reverse.view = .off ∧ t.reverse.lingerTimer = none ∧
      t.reverse.deadline = none ∧ t.reverse.level = s.reverse.level ∧ t.mixer.reverseHold = false ∧
      t.mixer.muteHanded = false ∧ t.guide.viewDemand = false ∧ t.chime.proximity.showing = false ∧
      t.notice.cause.getLsbD 4 = true ∧ t.slot cameraSlot = ⟨q, none, q, .done, s.port.blockCount⟩ ∧
      (s.cameraNeeded = true → leaves s → t.capture.state = .off ∧ t.camPwr = false) ∧
      (s.cameraNeeded = true → s.capture.state = .capturing → s.capture.frames ≠ [] → t.capture.state = .stopping) ∧
      (s.cameraNeeded = true → s.capture.state = .setup → s.capture.i2c ≠ none →
        t.capture.state = .setup ∧ t.capture.dropWaits = true) ∧
      (s.cameraNeeded = true → (s.capture.state = .stopping ∨ s.capture.state = .off) →
        t.capture.state = s.capture.state) ∧
      (s.cameraNeeded = false → t.capture.state = s.capture.state) ∧ t.port = s.port ∧ t.film = s.film) ∧
    (¬noParams p → AnswersNext (.cameraOn q p) s (takeAsk cameraSlot q .refusedField s) ∧
      AnswersNext (.cameraOff q p) s (takeAsk cameraSlot q .refusedField s))) ∧
  (∀ s : State,
    (s.cameraNeeded = true ↔ (s.capture.askedOn = true ∧ s.port.quiet = false) ∨ s.capture.hold = true) ∧
    (s.storesInUse = true ↔ s.port.attached = true ∧ s.capture.record.stores ≠ none) ∧
    (s.capture.openKept = true ↔ ∃ id, s.capture.openFrame = .kept id) ∧
    (s.camPwr = true ↔ s.capture.state ≠ .off ∧ s.capture.state ≠ .fault))

/-- The reads of a CAMERA_LOAD (R75 to R77, R85, R199). A part of the script without its END asks for the next part,
up to 2 KiB: the parts of 256 bytes are the model's reading (log 16). With a read of the three records still to come a
record is kept; the last one decides: with the camera in another state than OFF (log 46) the ask is answered
REFUSED_STATE; the first record to fail its checks, camera, geometry, script, gives REFUSED_FIELD and names the load
fault; otherwise the three kept parts are replaced, the load counted and the ask answered DONE, a frame that the
writer has not finished going on (R71; that it keeps the record it was received under is the model's reading, log 25).
A read that faults leaves the ask untaken. What makes each record valid, store regions being compared without wrapping
at the last address (the model's choice, log 56), is spelled field by field, and a script's
bytes are its steps, at most 63, and an END; the kept record and geometry are spelled from their bytes (11.6), three
store addresses of 0 holding none (R199) and h11 to h33 signed; and so is where a script's END is reached. -/
def Obligations.CameraLoadRead : Prop :=
  (∀ (s : State) (tag : Nat) (i : Issued) (q : Word) (load : CameraLoad), (s.slot cameraSlot).reading = some q →
    s.capture.load = some load →
    let n := s.capture.loadSerial
    let read := s.readEnded i
    let done := { read with capture := { s.capture with load := none } }
    let kept (c : Instr) (l : CameraLoad) : Prop :=
      AnswersNext c s { read with capture := { s.capture with load := some l } }
    let decided (c : Instr) (camera geometry script : List Byte) : Prop :=
      let area : Rect := ⟨0, 0, s.composers.front.timing.activeW, s.composers.front.timing.activeH⟩
      let good := cameraRecordValid s.port.base area camera = true
      let fails (f : LoadFault) : Prop := AnswersNext c s (takeAsk cameraSlot q .refusedField
        { done with capture := { done.capture with loadFault := f } })
      (s.capture.state ≠ .off → AnswersNext c s (takeAsk cameraSlot q .refusedState done)) ∧
      (s.capture.state = .off → ¬good → fails .camera) ∧
      (s.capture.state = .off → good → geometryValid (geometryOf geometry) = false → fails .geometry) ∧
      (s.capture.state = .off → good → geometryValid (geometryOf geometry) = true →
        (∀ l, readScript 64 script ≠ .steps l) → fails .script) ∧
      (∀ l, s.shaped → s.capture.state = .off → good → geometryValid (geometryOf geometry) = true →
        readScript 64 script = .steps l → ∃ t, exec c s = .next t ∧
          t.capture = { s.capture with
            load := none
            record :=
              { width := (halfAt camera 0).toNat, height := (halfAt camera 2).toNat, wide := byteAt camera 4 == 1
                stores :=
                  if addrAt camera 8 = 0 ∧ addrAt camera 0x10 = 0 ∧ addrAt camera 0x18 = 0 then none
                  else some ⟨addrAt camera 8, addrAt camera 0x10, addrAt camera 0x18⟩
                decimation := (byteAt camera 5).toNat, threshold := (byteAt camera 6).toNat
                viewX := (halfAt camera 0x20).toNat, viewY := (halfAt camera 0x22).toNat
                viewW := (halfAt camera 0x24).toNat, viewH := (halfAt camera 0x26).toNat
                strip := (halfAt camera 0x28).toNat, deadline := (halfAt camera 0x2A).toNat
                linger := (halfAt camera 0x2C).toNat }
            geometry := some
              { wheelbase := (halfAt geometry 0).toNat, overhang := (halfAt geometry 2).toNat
                track := (halfAt geometry 4).toNat, ratio := (halfAt geometry 6).toNat
                d1 := (halfAt geometry 8).toNat, d2 := (halfAt geometry 0xA).toNat
                d3 := (halfAt geometry 0xC).toNat, d4 := (halfAt geometry 0xE).toNat
                h11 := (wordAt geometry 0x10).toInt, h12 := (wordAt geometry 0x14).toInt
                h13 := (wordAt geometry 0x18).toInt, h21 := (wordAt geometry 0x1C).toInt
                h22 := (wordAt geometry 0x20).toInt, h23 := (wordAt geometry 0x24).toInt
                h31 := (wordAt geometry 0x28).toInt, h32 := (wordAt geometry 0x2C).toInt
                h33 := (wordAt geometry 0x30).toInt }
            script := l
            loads := s.capture.loads + 1
            loadFault := .none } ∧
          t.guide.shown = none ∧ t.guide.inFlight = none ∧ t.guide.summary = s.guide.summary ∧
          t.slot cameraSlot = ⟨q, none, q, .done, s.port.blockCount⟩ ∧ t.port = s.port ∧
          t.reverse = s.reverse ∧ t.notice = (setFlag .askAnswered s).notice)
    (∀ bytes : List Byte, let c := Instr.cameraLoadReadDone tag (.data bytes)
      (s.awaits tag i (.geometryRecord n) 52 → bytes.length = 52 →
        (load.camera = none ∨ load.scriptRead = false → kept c { load with geometry := some bytes }) ∧
        (∀ camera, load.camera = some camera → load.scriptRead = true → decided c camera bytes load.script)) ∧
      (s.awaits tag i (.cameraRecord n) 48 → bytes.length = 48 →
        (load.geometry = none ∨ load.scriptRead = false → kept c { load with camera := some bytes }) ∧
        (∀ geometry, load.geometry = some geometry → load.scriptRead = true →
          decided c bytes geometry load.script)) ∧
      (∀ part, s.awaits tag i (.script n part) 256 → bytes.length = 256 →
        let all := load.script ++ bytes
        (scriptEnds (all.length + 1) all = false → part < 7 → AnswersNext c s
          (makeRead (.script n (part + 1)) (s.areaAddr (0x5000 + 256 * (part + 1))) 256
            { read with capture := { s.capture with load := some { load with script := all } } })) ∧
        (scriptEnds (all.length + 1) all = true ∨ 7 ≤ part →
          (load.camera = none ∨ load.geometry = none → kept c { load with script := all, scriptRead := true }) ∧
          (∀ camera geometry, load.camera = some camera → load.geometry = some geometry →
            decided c camera geometry all)))) ∧
    (s.shaped → s.arbiter.consecutive.get i.request.client < 15 →
      (s.awaits tag i (.geometryRecord n) 52 ∨ s.awaits tag i (.cameraRecord n) 48 ∨
        ∃ part, s.awaits tag i (.script n part) 256) →
      ∃ t, exec (.cameraLoadReadDone tag .error) s = .next t ∧ t.capture.load = none ∧
        (t.slot cameraSlot).reading = none ∧ (t.slot cameraSlot).lastTaken = (s.slot cameraSlot).lastTaken ∧
        t.capture.record = s.capture.record ∧ t.arbiter.total = s.arbiter.total + 1)) ∧
  ((∀ (base : Addr) (area : Rect) (bytes : List Byte),
      let h (o : Nat) := (halfAt bytes o).toNat
      let stores := [addrAt bytes 8, addrAt bytes 16, addrAt bytes 24].map (·.toNat)
      let size := h 2 * (h 0 * if byteAt bytes 4 = 1 then 4 else 2)
      let apart (x m y n : Nat) : Prop := x + m ≤ y ∨ y + n ≤ x
      cameraRecordValid base area bytes = true ↔
        (320 ≤ h 0 ∧ h 0 ≤ 1280 ∧ h 0 % 2 = 0 ∧ 240 ≤ h 2 ∧ h 2 ≤ 800 ∧ h 2 % 2 = 0 ∧
         (byteAt bytes 4 = 0 ∨ byteAt bytes 4 = 1) ∧
         ((∀ a ∈ stores, a = 0) ∨ (stores.Pairwise (fun a b => apart a size b size) ∧
            ∀ a ∈ stores, a ≠ 0 ∧ a % 256 = 0 ∧ apart a size base.toNat 65536)) ∧
         (byteAt bytes 5).toNat ≤ 3 ∧ (byteAt bytes 6).toNat ≤ 63 ∧ 1 ≤ h 0x24 ∧ 1 ≤ h 0x26 ∧
         h 0x20 + h 0x24 ≤ area.w ∧ h 0x22 + h 0x26 ≤ area.h ∧
         h 0 ≤ 4 * h 0x24 ∧ h 0x24 ≤ 8 * h 0 ∧ h 2 ≤ 4 * h 0x26 ∧ h 0x26 ≤ 8 * h 2 ∧
         h 0x28 ≤ 200 ∧ 500 ≤ h 0x2A ∧ h 0x2A ≤ 5000 ∧ h 0x2C ≤ 10000)) ∧
    (∀ bytes : List Byte,
      let h (o : Nat) := (halfAt bytes o).toNat
      geometryValid (geometryOf bytes) = true ↔
        (2000 ≤ h 0 ∧ h 0 ≤ 3600 ∧ 500 ≤ h 2 ∧ h 2 ≤ 1500 ∧ 1300 ≤ h 4 ∧ h 4 ≤ 1900 ∧ h 4 % 2 = 0 ∧
         640 ≤ h 6 ∧ h 6 ≤ 1600 ∧ 200 ≤ h 8 ∧ h 8 < h 10 ∧ h 10 < h 12 ∧ h 12 < h 14 ∧ h 14 ≤ 6000 ∧
         1 ≤ (wordAt bytes 0x30).toInt)) ∧
    (∀ (bytes : List Byte) (l : List ScriptStep), readScript 64 bytes = .steps l ↔
      (l.length ≤ 63 ∧ ∃ (parts : List (List Byte)) (rest : List Byte), bytes = parts.flatten ++ 0 :: rest ∧
        parts.length = l.length ∧ ∀ x ∈ l.zip parts, x.1.spelled x.2)) ∧
    (∀ bytes : List Byte, scriptEnds (bytes.length + 1) bytes = true ↔
      ∃ (parts : List (List Byte)) (rest : List Byte), bytes = parts.flatten ++ 0 :: rest ∧ ∀ x ∈ parts,
        (∃ device lo hi n data, x = 1 :: device :: lo :: hi :: n :: data ∧ data.length = n.toNat) ∨
        ∃ a b c, x = [2, a, b, c]))

/-- The writes of the part (R166, R69, R70, R173). When the link port has sent the status write on the path, or the
store write on it, exactly its bytes are in host memory, at consecutive addresses from its own, the path is free and
the client's consecutive fault count 0. After the last write of the last line of a closed frame the frame completes
(R70): spoiled, by its verdict or by a write of it that has faulted, it is counted so and nothing is published; whole, its
store is the newest published one, and a camera that waited for it in STOPPING is OFF, and on in POWERING when it is
needed again (R63). The publication is a delivery to the reverse view (R146 to R149), whose mark an entry into OFF
clears. With another request or none on the path the command changes nothing (the model's choice, log 14).
-/
def Obligations.WritesSent : Prop :=
  let written (i : Issued) (bytes : List Byte) (s t : State) : Prop :=
    (∀ k, k < bytes.length → t.memory.read (i.request.addr + BitVec.ofNat 64 k).toNat = some (bytes.getD k 0)) ∧
    (∀ a, (∀ k, k < bytes.length → a ≠ (i.request.addr + BitVec.ofNat 64 k).toNat) →
      t.memory.read a = s.memory.read a)
  (∀ (s : State) (i : Issued) (o : Nat) (bytes : List Byte), s.arbiter.path = some i →
    i.request.work = .status o bytes → bytes.length ≤ 256 → ∃ t, exec .statusWriteComplete s = .next t ∧
      written i bytes s t ∧ t.arbiter.path = none ∧ t.arbiter.consecutive.poller = 0 ∧
      t.arbiter.total = s.arbiter.total ∧ SameButWrites t { s with memory := t.memory, arbiter := t.arbiter }) ∧
  (∀ (s : State) (i : Issued) (frame row : Nat) (bytes : List Byte), s.arbiter.path = some i →
    i.request.work = .store frame row bytes → bytes.length ≤ 256 → ∃ t, exec .storeWriteDone s = .next t ∧
      written i bytes s t ∧ t.arbiter.path = none ∧ t.arbiter.consecutive.storeWriter = 0 ∧ t.port = s.port ∧
      t.film = s.film ∧ t.mixer.taken = s.mixer.taken ∧
      (∀ (f : KeptFrame) (l : BufLine) (n : Nat), s.capture.frames = [f] → s.capture.buffer = [l] → f.id = frame →
        l.frame = frame → l.row = row → l.forFront = false →
        (storedBytes f.record.wide l.payload).length ≤ l.issued → f.toWriter = true → f.target = some n →
        f.closed = true →
        (f.spoiled = true ∨ f.faulted = true → t.capture.frames = [] ∧ t.capture.buffer = [] ∧
          t.capture.spoiled = s.capture.spoiled + 1 ∧ t.capture.whole = s.capture.whole ∧
          t.capture.publications = s.capture.publications ∧
          (s.capture.state ≠ .stopping → t.capture.state = s.capture.state ∧
            t.capture.published = s.capture.published ∧ t.capture.history = .bad :: s.capture.history.take 7 ∧
            t.reverse = s.reverse) ∧
          (s.capture.state = .stopping → t.capture.state = (if s.cameraNeeded then .powering else .off) ∧
            t.capture.published = none ∧ t.reverse = { s.reverse with delivered := false })) ∧
        (f.spoiled = false → f.faulted = false →
        (s.capture.state = .stopping → s.cameraNeeded = false → s.reverse.view = .off → t.capture.state = .off ∧
          t.capture.published = none ∧ t.capture.publications = s.capture.publications + 1 ∧ t.capture.frames = [] ∧
          t.capture.whole = s.capture.whole + 1 ∧ ViewDelivered false s t) ∧
        (s.capture.state = .stopping → s.cameraNeeded = true → t.capture.state = .powering ∧ t.camPwr = true ∧
          t.capture.settleTimer = some 2400 ∧ t.capture.published = none ∧ t.capture.frames = [] ∧
          t.capture.publications = s.capture.publications + 1 ∧ t.capture.whole = s.capture.whole + 1 ∧
          ViewDelivered false s t) ∧
        (s.capture.state = .capturing → t.capture.published = some ⟨n, f.number⟩ ∧
          t.capture.publications = s.capture.publications + 1 ∧ t.capture.frames = [] ∧ t.capture.buffer = [] ∧
          t.capture.whole = s.capture.whole + 1 ∧ ViewDelivered true s t)))) ∧
  (∀ s : State, (s.arbiter.path = none ∨ ∃ i w n, s.arbiter.path = some i ∧ i.request.work = .read w n) →
    AnswersNext .statusWriteComplete s s ∧ AnswersNext .storeWriteDone s s) ∧
  (∀ (s : State) (i : Issued) (o : Nat) (bytes : List Byte), s.arbiter.path = some i →
    i.request.work = .status o bytes → AnswersNext .storeWriteDone s s) ∧
  (∀ (s : State) (i : Issued) (frame row : Nat) (bytes : List Byte), s.arbiter.path = some i →
    i.request.work = .store frame row bytes → AnswersNext .statusWriteComplete s s)

/-! ## The guide line engine, the mixer and the chime engine (chapters 4 to 6) -/

/-- The sample and the shown set (R81, R82, R83, R87). The first vehicle record after an attach is a reference only; a
changed count takes a sample, the angle within ±7800 and each distance of 0..5000 kept, makes the state FRESH with 300
ms (14400 sample periods) and reports the nearest distance, fresh. The timer's expiry in FRESH gives HELD with another
300 ms and a report that is not fresh, in HELD it gives STATIC. A completed computation's set is the shown one, and
the status keeps its point counts, marks and bar. The commands for a timer in STATIC and for a computation that is not
in flight change nothing (the model's choice, log 14). A set is spelled out (R90 to R99): the road wheel angle and its
turn, the ground points, their projection and place, the track lines up to the first point not produced, the marks and
the bar, the LEFT end first (log 41). So is its drawing (R100): the strokes of both lines, the marks and the bar in
order, the last over a pixel giving its colour, each 4 pixels wide across its major axis, within the set's clip, over
the camera pixels of a line. -/
def Obligations.GuideEngine : Prop :=
  let distance (h : Half) : Option Nat := if h.toNat ≤ 5000 then some h.toNat else none
  (∀ (s : State) (tag : Nat) (i : Issued) (bytes : List Byte), s.awaits tag i .vehicle 16 → bytes.length = 16 →
    let c := Instr.vehicleRecordReadDone tag (.data bytes)
    let u := onCopies (fun c => { c with vehicle := some bytes }) (s.readEnded i)
    let count := wordAt bytes 0
    (s.guide.reference = none → AnswersNext c s { u with guide := { s.guide with reference := some count } }) ∧
    (s.guide.reference = some count → AnswersNext c s u) ∧
    (∀ r, s.guide.reference = some r → r ≠ count → ∃ t v, exec c s = .next t ∧
      t.guide = { s.guide with
        sample := some v
        reference := some count
        referenceShown := some count
        samplesTaken := s.guide.samplesTaken + 1
        freshness := .fresh
        timer := some 14400 } ∧
      v.angle = max (-7800) (min 7800 (halfAt bytes 4).toInt) ∧
      v.d0 = distance (halfAt bytes 8) ∧ v.d1 = distance (halfAt bytes 10) ∧ v.d2 = distance (halfAt bytes 12) ∧
      v.d3 = distance (halfAt bytes 14) ∧
      t.chime.proximity.fresh = true ∧ t.chime.proximity.nearest = v.nearest ∧
      (∀ n, v.nearest = some n ↔
        ((some n = v.d0 ∨ some n = v.d1 ∨ some n = v.d2 ∨ some n = v.d3) ∧
          ∀ m, (some m = v.d0 ∨ some m = v.d1 ∨ some m = v.d2 ∨ some m = v.d3) → n ≤ m)) ∧
      t.composers = s.composers ∧ t.port = s.port ∧ t.capture = s.capture)) ∧
  (∀ s : State, s.guide.freshness = .fresh → ∃ t, exec .freshnessTimerExpiry s = .next t ∧
    t.guide = { s.guide with freshness := .held, timer := some 14400, staleCount := s.guide.staleCount + 1 } ∧
    t.chime.proximity.fresh = false ∧
    (s.chime.waits .sensingUnavailable = true ∨ s.chime.plays .sensingUnavailable = true →
      t.chime.droppedRequests = s.chime.droppedRequests + 1) ∧
    (s.chime.waits .sensingUnavailable = false → s.chime.plays .sensingUnavailable = false →
      t.chime.droppedRequests = s.chime.droppedRequests ∧ t.chime.waits .sensingUnavailable = true) ∧
    t.composers = s.composers ∧ t.port = s.port ∧ t.capture = s.capture) ∧
  (∀ s : State, s.guide.freshness = .held → AnswersNext .freshnessTimerExpiry s
    { s with guide := { s.guide with freshness := .static, timer := none } }) ∧
  (∀ s : State, s.guide.freshness = .static → AnswersNext .freshnessTimerExpiry s s) ∧
  (∀ (s : State) (x : GuideInputs), s.guide.inFlight = some x → AnswersNext .guideComputationDone s { s with
    guide := { s.guide with
      shown := some (guideSetOf x)
      summary := ⟨(guideSetOf x).left.length, (guideSetOf x).right.length, (guideSetOf x).mark1.isSome,
        (guideSetOf x).mark2.isSome, (guideSetOf x).mark3.isSome, (guideSetOf x).bar.map (·.1)⟩
      inFlight := none
      completed := s.guide.completed + 1 } }) ∧
  (∀ s : State, s.guide.inFlight = none → AnswersNext .guideComputationDone s s) ∧
  (∀ x : GuideInputs,
    let g := x.geometry
    let set := guideSetOf x
    let delta := max (-4500) (min 4500 (roundDiv (x.angle * 640) g.ratio))
    let kappa := (roundDiv ((tangentAt delta.natAbs : Int) * 16384) g.wheelbase).toNat
    let radius := roundDiv 1073741824 kappa
    let side (right : Bool) : Int := if right then (g.track / 2 : Nat) else -((g.track / 2 : Nat) : Int)
    let ground (right : Bool) (m : Nat) : Option (Int × Int) :=
      if delta.natAbs < 5 then some (side right, m)
      else
        let a := (roundDiv ((m * kappa * 5730 : Nat) : Int) 1073741824).toNat
        let start := (if delta < 0 then -side right else side right) - radius
        let px := radius + roundDiv (start * sineAt (9000 - a) + g.overhang * sineAt a) 65536
        let py := -(g.overhang : Int) + roundDiv (-start * sineAt a + g.overhang * sineAt (9000 - a)) 65536
        if 9000 < a then none else some (if delta < 0 then -px else px, py)
    let screen (right : Bool) (m : Nat) : Option (Int × Int) := (ground right m).bind fun p =>
      let den := g.h31 * p.1 + g.h32 * p.2 + g.h33
      let u := roundDiv (g.h11 * p.1 + g.h12 * p.2 + g.h13) den.toNat
      let v := roundDiv (g.h21 * p.1 + g.h22 * p.2 + g.h23) den.toNat
      if den ≤ 0 ∨ 4096 < u.natAbs ∨ 4096 < v.natAbs then none
      else some (x.view.x + (u * x.view.w + (x.camW : Int) / 2) / x.camW,
        x.view.y + (v * x.view.h + (x.camH : Int) / 2) / x.camH)
    let barOf (m : Nat) (b : GuideBar) : Prop := screen false m = some (b.x1, b.y1) ∧ screen true m = some (b.x2, b.y2)
    set.kind = x.kind ∧ set.angle = x.angle ∧ set.clip = x.view ∧
    set.turn = (if delta.natAbs < 5 then none else some (delta, if delta < 0 then -radius else radius)) ∧
    (∀ (right : Bool) (j : Nat) (p : GuidePoint), (if right then set.right else set.left)[j]? = some p ↔
      (j ≤ 15 ∧ (∀ k, k < j → screen right (k * g.d4 / 15) ≠ none) ∧
        screen right (j * g.d4 / 15) = some (p.x, p.y) ∧
        p.band = (if j * g.d4 / 15 < g.d1 then .red else if j * g.d4 / 15 < g.d2 then .yellow else .green))) ∧
    (∀ b, (set.mark1 = some b ↔ barOf g.d1 b) ∧ (set.mark2 = some b ↔ barOf g.d2 b) ∧
      (set.mark3 = some b ↔ barOf g.d3 b)) ∧
    (∀ d b, set.bar = some (d, b) ↔ x.nearest = some d ∧ d < g.d4 ∧ barOf d b)) ∧
  (∀ (b : GuideBar) (x y : Int), b.covers x y = true ↔
    let n := max (b.x2 - b.x1).natAbs (b.y2 - b.y1).natAbs
    ∃ m : Nat, m ≤ n ∧
      (if (b.y2 - b.y1).natAbs ≤ (b.x2 - b.x1).natAbs then
        let centre := b.y1 + (if n = 0 then 0 else roundDiv ((b.y2 - b.y1) * m) n)
        x = (if b.x1 ≤ b.x2 then b.x1 + m else b.x1 - m) ∧ y ∈ [centre - 2, centre - 1, centre, centre + 1]
      else
        let centre := b.x1 + (if n = 0 then 0 else roundDiv ((b.x2 - b.x1) * m) n)
        y = (if b.y1 ≤ b.y2 then b.y1 + m else b.y1 - m) ∧ x ∈ [centre - 2, centre - 1, centre, centre + 1])) ∧
  (∀ (g : GuideSet) (x y : Int),
    let line (l : List GuidePoint) := (l.zip l.tail).map fun p => (GuideBar.mk p.1.x p.1.y p.2.x p.2.y, p.1.band)
    let mark (b : Option GuideBar) (c : Band) := b.toList.map fun b => (b, c)
    let strokes := line g.left ++ line g.right ++ mark g.mark1 .red ++ mark g.mark2 .yellow ++ mark g.mark3 .green ++
      mark (g.bar.map (·.2)) .red
    g.pixel x y = if g.clip.x ≤ x ∧ x < g.clip.x + g.clip.w ∧ g.clip.y ≤ y ∧ y < g.clip.y + g.clip.h then
      ((strokes.filter fun k => k.1.covers x y).getLast?).map fun k => match k.2 with
        | .red => ⟨255, 255, 0, 0⟩
        | .yellow => ⟨255, 255, 255, 0⟩
        | .green => ⟨255, 0, 255, 0⟩
    else none) ∧
  (∀ (g : Option GuideSet) (y : Int) (l : LayerLine), (overGuides g y l).x0 = l.x0 ∧
    (overGuides g y l).pixels = l.pixels.mapIdx fun k p => match g with
      | none => p
      | some set => (set.pixel (l.x0 + k) y).getD p)

/-- A routing record has been read (R103, R104, R107, R117). One equal to the last copy changes nothing; one that fails
its checks becomes the last copy with its first failing field as the routing fault, and the block poll's is counted with
AREA_FAULT; a valid one becomes the taken routing, and, with the duck depth as before, each route whose host level
changes has the new level pending for 960 samples, or in its pending change, or no change pending when it is the applied
one. A new duck depth is taken at once by a route that is not ducked now, and goes with a pending change to one that is;
a pending change keeps its wait and the duck depth it holds unless a new one comes with it, and is gone when it would
change nothing. The record's bytes, each route's host level (R105) and each check of R104 are spelled. A MIXER_SET is answered REFUSED_FIELD at once
when its record has been refused, and else taken, its DONE due at the next block end; that the take writes the block
count with an empty result is the model's reading (log 18). A refusal's routing fault is in the mixer status as last
written at once (R193). The read of a MIXER_SET that ends with a fault gives the ask up untaken and leaves the mixer as
it is. -/
def Obligations.RoutingRead : Prop :=
  let seen (s : State) (new : Routing) : Prop := ∃ b, s.mixer.lastCopy = some (new, b)
  let routes (s t : State) (new : Routing) : Prop := s.mixer.taken.duck = new.duck → ∀ r,
    (hostLevel new r = hostLevel s.mixer.taken r → t.route r = s.route r) ∧
    (hostLevel new r ≠ hostLevel s.mixer.taken r → (s.route r).pending = none → t.route r =
      if hostLevel new r = (s.route r).level then s.route r
      else { s.route r with pending := some ⟨hostLevel new r, none, 960⟩ }) ∧
    (∀ p, hostLevel new r ≠ hostLevel s.mixer.taken r → (s.route r).pending = some p → p.duck = none → t.route r =
      if hostLevel new r = (s.route r).level then { s.route r with pending := none }
      else { s.route r with pending := some ⟨hostLevel new r, none, p.wait⟩ })
  let depths (s t : State) (new : Routing) : Prop := s.mixer.taken.duck ≠ new.duck → ∀ r, (s.route r).pending = none →
    let ducked := r.zone = .cabin ∧ s.mixer.duckApplied = true
    let kept := hostLevel new r = (s.route r).level
    (ducked → t.route r =
      if kept ∧ new.duck.toNat = (s.route r).duck then s.route r
      else { s.route r with pending := some ⟨hostLevel new r, some new.duck.toNat, 960⟩ }) ∧
    (¬ducked → t.route r =
      if hostLevel new r = hostLevel s.mixer.taken r ∨ kept then { s.route r with duck := new.duck.toNat }
      else { s.route r with duck := new.duck.toNat, pending := some ⟨hostLevel new r, none, 960⟩ })
  let waits (s t : State) (new : Routing) : Prop := ∀ r p, (s.route r).pending = some p →
    let changes := s.mixer.taken.duck ≠ new.duck
    let carries := changes ∧ r.zone = .cabin ∧ s.mixer.duckApplied = true
    let duck := if changes ∧ ¬carries then new.duck.toNat else (s.route r).duck
    let held := if carries then some new.duck.toNat else p.duck
    t.route r =
      if hostLevel new r = hostLevel s.mixer.taken r ∧ ¬carries then { s.route r with duck := duck }
      else if hostLevel new r = (s.route r).level ∧ (held = none ∨ held = some duck) then
        { s.route r with duck := duck, pending := none }
      else { s.route r with duck := duck, pending := some ⟨hostLevel new r, held, p.wait⟩ }
  (∀ (s : State) (tag : Nat) (i : Issued) (bytes : List Byte), s.awaits tag i .routing 16 → bytes.length = 16 →
    let c := Instr.routingRecordReadDone tag (.data bytes)
    let u := onCopies (fun c => { c with routing := some bytes }) (s.readEnded i)
    let new := routingOf bytes
    (seen s new → AnswersNext c s u) ∧
    (¬seen s new → routingFaultOf new ≠ 0 → AnswersNext c s
      (areaFault .routing (wordOfNat (routingFaultOf new)) { u with mixer := { s.mixer with
        lastCopy := some (new, false), routingFault := routingFaultOf new, refusals := s.mixer.refusals + 1
        shown := setAt (setAt s.mixer.shown 52 fun _ => wordOfNat (routingFaultOf new)) 53 fun _ =>
          s.mixer.refusals + 1 } })) ∧
    (¬seen s new → routingFaultOf new = 0 → ∃ t, exec c s = .next t ∧ routes s t new ∧ depths s t new ∧
      waits s t new ∧ t.mixer.taken = new ∧ t.mixer.lastCopy = some (new, true) ∧ t.mixer.routingFault = 0 ∧
      t.mixer.refusals = s.mixer.refusals ∧ t.notice = s.notice ∧ t.chime = s.chime ∧ t.film = s.film)) ∧
  (∀ (s : State) (tag : Nat) (i : Issued) (bytes : List Byte) (q : Word), s.awaits tag i .mixerSet 16 →
    bytes.length = 16 → (s.slot mixerSlot).reading = some q → s.shaped →
    let c := Instr.mixerSetReadDone tag (.data bytes)
    let new := routingOf bytes
    (∀ b, s.mixer.lastCopy = some (new, b) → AnswersNext c s
      (if b then takeAsk mixerSlot q .empty { s.readEnded i with poller := { s.poller with mixerWaits := true } }
       else takeAsk mixerSlot q .refusedField (s.readEnded i))) ∧
    (¬seen s new → routingFaultOf new ≠ 0 → AnswersNext c s (takeAsk mixerSlot q .refusedField
      { s.readEnded i with mixer := { s.mixer with
        lastCopy := some (new, false), routingFault := routingFaultOf new
        shown := setAt s.mixer.shown 52 fun _ => wordOfNat (routingFaultOf new) } })) ∧
    (¬seen s new → routingFaultOf new = 0 → ∃ t, exec c s = .next t ∧ routes s t new ∧ depths s t new ∧
      waits s t new ∧ t.mixer.taken = new ∧ t.mixer.lastCopy = some (new, true) ∧ t.poller.mixerWaits = true ∧
      t.slot mixerSlot = ⟨q, none, q, .empty, s.port.blockCount⟩ ∧ t.notice = s.notice)) ∧
  (∀ (s : State) (tag : Nat) (i : Issued), s.shaped → s.awaits tag i .mixerSet 16 →
    s.arbiter.consecutive.get i.request.client < 15 → ∃ t, exec (.mixerSetReadDone tag .error) s = .next t ∧
      t.slot mixerSlot = { s.slot mixerSlot with reading := none } ∧ t.mixer = s.mixer ∧
      t.poller.mixerWaits = s.poller.mixerWaits ∧ t.arbiter.total = s.arbiter.total + 1 ∧ t.port = s.port) ∧
  (∀ bytes : List Byte, let b (k : Nat) : Byte := byteAt bytes k
    routingOf bytes = ⟨⟨⟨⟨b 0, b 1⟩, ⟨b 2, b 3⟩, ⟨b 4, b 5⟩⟩, ⟨⟨b 6, b 7⟩, ⟨b 8, b 9⟩, ⟨b 10, b 11⟩⟩⟩,
      ⟨b 12, b 13, b 14⟩, b 15⟩) ∧
  (∀ (m : Routing) (r : Route),
    let x := match r.stream with | .f0 => m.routes.f0 | .f1 => m.routes.f1
    let y := match r.zone with | .cabin => x.cabin | .phonesL => x.phonesL | .phonesR => x.phonesR
    let master := match r.zone with
      | .cabin => m.masters.cabin
      | .phonesL => m.masters.phonesL
      | .phonesR => m.masters.phonesR
    hostLevel m r = if y.enable = 0 ∨ y.attenuation = 255 ∨ master = 255 then none
      else some (y.attenuation.toNat + master.toNat)) ∧
  (∀ bytes : List Byte,
    let level (b : Byte) : Prop := b.toNat ≤ 160 ∨ b = 255
    let good (k : Nat) : Prop :=
      if k < 12 then (if k % 2 = 0 then (byteAt bytes k).toNat ≤ 1 else level (byteAt bytes k))
      else if k < 15 then level (byteAt bytes k) else (byteAt bytes k).toNat ≤ 80
    ((∀ k, k < 16 → good k) → routingFaultOf (routingOf bytes) = 0) ∧
    (∀ k, k < 16 → ¬good k → (∀ j, j < k → good j) → routingFaultOf (routingOf bytes) = k + 1))

/-- Gains and limits (R102, R106, R108, R109, R113 to R116). A pending change becomes the route's level, and its duck
depth when it holds one; the target computed from them starts a ramp from the gain last used, unless it is the target
in force. A ramp runs in a straight line from its start at step 0 to its target at step 256, never outside the two,
and its end leaves the gain at the target. The first saturation of a zone in a block marks and counts it with
AUDIO_CLIP, a later one changes nothing. In a sample period (log 3) a pending change is applied when the stream's left
sample is a zero crossing or the wait has come to its last sample, and otherwise waits one sample less; then each zone
puts out, on both channels, the sum of both streams' samples at their routes' next gains and of the chime
contributions admitted, limited to 24 bits. A sound or clip sample still missing in that period is silent and a miss,
counted once in a block for each stream and once for the clips (R42, R135); a clip that is not read, while DETACHED, of
a forgotten tray or with its card's answer ended (R127), misses nothing (log 51). The gain of an attenuation a up to 160
is 32768 x 10^(-a / 40) rounded, beyond it 0. The commands without a pending change or a ramp change nothing, and a ramp
may lead to the gain it starts from: the model's choice and reading (log 14, log 36). -/
def Obligations.RoutesAndZones : Prop :=
  let applied (s : State) (r : Route) (p : PendingChange) : RouteState :=
    let duck := p.duck.getD (s.route r).duck
    let target := match p.level with
      | none => 0
      | some l => if (r.zone = .cabin ∧ s.mixer.muteApplied = true) ∨ s.mixer.quietMute = true then 0
        else gainOf (l + if r.zone = .cabin ∧ s.mixer.duckApplied = true then duck else 0)
    ⟨p.level, duck, none, (s.route r).gain, target,
      if target = (s.route r).target then (s.route r).ramp else some ⟨(s.route r).gain, target, 0⟩⟩
  (∀ (r : Route) (s : State) (p : PendingChange), (s.route r).pending = some p →
    ∃ t, exec (.hostChangeApply r) s = .next t ∧ SameButWrites { t with mixer := s.mixer } s ∧
      { t.mixer with routes := s.mixer.routes } = s.mixer ∧ (∀ x, x ≠ r → t.route x = s.route x) ∧
      t.route r = applied s r p) ∧
  (∀ (r : Route) (s : State), (s.route r).pending = none → AnswersNext (.hostChangeApply r) s s) ∧
  (∀ (r : Route) (s : State) (x : Ramp), (s.route r).ramp = some x →
    AnswersNext (.rampEnd r) s (s.onRoute r fun y => { y with gain := x.target, ramp := none })) ∧
  (∀ (r : Route) (s : State), (s.route r).ramp = none → AnswersNext (.rampEnd r) s s) ∧
  (∀ (x : Ramp) (m : Nat), m ≤ 256 →
    rampGain x 0 = x.start ∧ rampGain x 256 = x.target ∧
    min x.start x.target ≤ rampGain x m ∧ rampGain x m ≤ max x.start x.target ∧
    (rampGain x m : Int) = x.start + roundDiv (((x.target : Int) - x.start) * m) 256) ∧
  (∀ (z : Zone) (s : State), s.mixer.clipMark.get z = false → AnswersNext (.zoneSaturation z) s
    (setFlag .audioClip { s with mixer := { s.mixer with
      clipMark := s.mixer.clipMark.update z fun _ => true
      clips := s.mixer.clips.update z fun n => n + 1
      shown := setAt s.mixer.shown (match z with | .cabin => 49 | .phonesL => 50 | .phonesR => 51) fun _ =>
        s.mixer.clips.get z + 1 } })) ∧
  (∀ (z : Zone) (s : State), s.mixer.clipMark.get z = true → AnswersNext (.zoneSaturation z) s s) ∧
  (∀ s : State,
    let sample (st : Stream) : Stereo := (s.stream st).sampleAt s.audio.position
    let crosses (st : Stream) : Prop := (sample st).left = 0 ∨
      (s.mixer.lastLeft.get st < 0 ∧ 0 < (sample st).left) ∨ (0 < s.mixer.lastLeft.get st ∧ (sample st).left < 0)
    let next (r : Route) (x : RouteState) : Prop :=
      ((s.route r).pending = none → x = s.route r) ∧
      ∀ p, (s.route r).pending = some p → (crosses r.stream ∨ p.wait ≤ 1 → x = applied s r p) ∧
        (¬(crosses r.stream ∨ p.wait ≤ 1) → x = { s.route r with pending := some { p with wait := p.wait - 1 } })
    ∃ routes : Route → RouteState, (∀ r, next r (routes r)) ∧
    let gain (r : Route) : Nat := match (routes r).ramp with
      | none => (routes r).gain
      | some x => rampGain x (min 256 (x.step + 1))
    let part (v : Int) (r : Route) : Int := (v * gain r + 16384) / 32768
    let chimes (z : Zone) : Int := (((chimeContributions s).filter fun c =>
      !s.mixer.quietMute || (s.mixer.reverseHold && c.internal)).map fun c => c.values.get z).sum
    let limited (v : Int) : Int := max (-8388608) (min 8388607 v)
    (∀ z, (tick s).mixer.output.get z =
      ⟨limited (part (sample .f0).left ⟨.f0, z⟩ + part (sample .f1).left ⟨.f1, z⟩ + chimes z),
       limited (part (sample .f0).right ⟨.f0, z⟩ + part (sample .f1).right ⟨.f1, z⟩ + chimes z)⟩) ∧
    (∀ r, ((tick s).route r).gain = gain r) ∧
    (s.arbiter.path = none → s.arbiter.outstanding = [] → ∀ r, ((tick s).route r).level = (routes r).level ∧
      ((tick s).route r).duck = (routes r).duck ∧ ((tick s).route r).pending = (routes r).pending)) ∧
  (∀ s : State,
    let n := s.audio.position
    (∀ st, let f := s.stream st
      let misses := f.blockMissed = false ∧ f.block.getD n .silence = .want
      (f.block.length ≤ 256 → ((tick s).stream st).misses = f.misses + (if misses then 1 else 0)) ∧
      (n < 255 → ((tick s).stream st).blockMissed = (f.blockMissed || decide misses))) ∧
    (let lacking := ∃ v addr count, (s.chime.voice = .sounding v ∨ ∃ m, s.chime.voice = .releasing v m) ∧
      v.chime.program = .clip addr count ∧ v.ended = false ∧ s.port.attached = true ∧ v.mark ≠ .forgotten ∧
      s.chime.clipEnded ≠ some v.chime.take ∧
      ∀ x ∈ s.chime.clipGot, ¬(x.take = v.chime.take ∧ x.repetition = v.chime.done ∧ x.position = v.position)
     (lacking → s.chime.clipMissed = false → (tick s).chime.clipMisses = s.chime.clipMisses + 1) ∧
     (¬lacking ∨ s.chime.clipMissed = true → (tick s).chime.clipMisses = s.chime.clipMisses) ∧
     (n < 255 → ((tick s).chime.clipMissed = true ↔ s.chime.clipMissed = true ∨ lacking)))) ∧
  (∀ a : Nat, (160 < a → gainOf a = 0) ∧ (a ≤ 160 → 1 ≤ gainOf a ∧
    (2 * gainOf a - 1) ^ 40 * 10 ^ a ≤ 65536 ^ 40 ∧ 65536 ^ 40 < (2 * gainOf a + 1) ^ 40 * 10 ^ a)) ∧
  (∀ (f : Film) (n : Nat), (∀ l r, f.block.getD n .silence = .got l r → f.sampleAt n = ⟨256 * l.toInt, 256 * r.toInt⟩) ∧
    ((∀ l r, f.block.getD n .silence ≠ .got l r) → f.sampleAt n = ⟨0, 0⟩))

/-- Every step keeps the waiting list in the order of R128: classes from the highest down, and within a class the
earlier take first. -/
def Obligations.WaitingListStaysOrdered : Prop :=
  ∀ s t : State, s.waitingOrdered → step s = .next t → t.waitingOrdered

/-- The tray (R122). A half that completes first is kept; when the other has been read too, in either order, the eight
cards, each spelled from its 64 bytes at the offsets of 11.5, are handed in their order: a card never read takes its sequence as a reference, one with the sequence last taken
is left, any other is acted on as the chime commands are, PLAY, STOP, and a refusal of an ask that is neither; that the
refusal sets CHIME_DONE whatever the card's state was, and keeps its repetitions done, is the model's choice (log 50).
With a half faulted no card is handed. A completion of a read that has ended changes nothing. -/
def Obligations.TrayRead : Prop :=
  (∀ (s : State) (tag : Nat) (i : Issued) (upper : Bool) (bytes : List Byte), s.awaits tag i (.tray upper) 256 →
    bytes.length = 256 →
    let c := Instr.chimeTrayReadDone tag (.data bytes)
    let other := if upper then s.poller.trayLow else s.poller.trayHigh
    let u := s.readEnded i
    (other = none → AnswersNext c s { u with poller := { s.poller with
      trayLow := if upper then s.poller.trayLow else some bytes
      trayHigh := if upper then some bytes else s.poller.trayHigh } }) ∧
    (∀ half, other = some half →
      let tray := if upper then half ++ bytes else bytes ++ half
      let v := { u with poller := { s.poller with trayLow := none, trayHigh := none } }
      (s.poller.trayFault = false → AnswersNext c s
        ([0, 1, 2, 3, 4, 5, 6, 7].foldl (fun w n =>
          let o := 64 * n
          handCard n
            { sequence := wordAt tray o, ask := byteAt tray (o + 4), cls := byteAt tray (o + 5)
              source := byteAt tray (o + 6), level := byteAt tray (o + 7), frequency := halfAt tray (o + 8)
              onTime := halfAt tray (o + 0xA), offTime := halfAt tray (o + 0xC), repeats := byteAt tray (o + 0xE)
              phonesL := byteAt tray (o + 0xF), phonesR := byteAt tray (o + 0x10)
              clipAddress := addrAt tray (o + 0x18), clipCount := wordAt tray (o + 0x20) } w) v)) ∧
      (s.poller.trayFault = true → AnswersNext c s v)) ∧
    (s.arbiter.consecutive.get i.request.client < 15 → ∃ t, exec (.chimeTrayReadDone tag .error) s = .next t ∧
      t.chime = s.chime ∧ t.port = s.port ∧ (other = none → t.poller.trayFault = true) ∧
      (other ≠ none → t.poller.trayLow = none ∧ t.poller.trayHigh = none))) ∧
  (∀ (s : State) (tag : Nat) (c : Completion), s.outstandingAt tag = none → AnswersNext (.chimeTrayReadDone tag c) s s) ∧
  (∀ (n : Nat) (c : ChimeCard) (s : State), n < 8 → s.shaped →
    ((s.card n).lastTaken = none → ∃ t, handCard n c s = t ∧
      t.card n = { s.card n with lastTaken := some c.sequence } ∧ (∀ k, k ≠ n → t.card k = s.card k) ∧
      { t with chime := { t.chime with cards := s.chime.cards } } = s) ∧
    ((s.card n).lastTaken = some c.sequence → handCard n c s = s) ∧
    (∀ q, (s.card n).lastTaken = some q → q ≠ c.sequence → s.port.attached = true →
      (c.ask = 1 → AnswersNext (.chimePlay n c) s (handCard n c s)) ∧
      (c.ask = 2 → AnswersNext (.chimeStop n c.sequence) s (handCard n c s)) ∧
      (c.ask ≠ 1 → c.ask ≠ 2 → ∃ t, handCard n c s = t ∧
        t.card n = ⟨some c.sequence, c.sequence, .refused, (s.card n).done, s.port.blockCount⟩ ∧
        t.chime.refused = s.chime.refused + 1 ∧ t.notice.cause.getLsbD 2 = true ∧
        (s.chime.proximity.active = false →
          t.chime.waiting = s.chime.waiting.filter (fun x => x.source != .card n)))))

/-- The chime commands while ATTACHED (R122 to R127, R140). A PLAY outside its ranges, which are spelled, is REFUSED and
counted, with CHIME_DONE; another enters the list at its place (R128, spelled) with the next take number, 1 being the first (the model's
reading, log 39), with the program (source 0 a tone of the card's frequency, on and off time, 1 a clip of its address and sample count),
level, repeats and zones of the card, in the place of a waiting chime of the card,
the card WAITING with none done. Either takes the card's chime on the voice from the card, to end without answer. While
the proximity voice is active the COURTESY chimes that an ask leaves at the head of the list are suppressed, their cards
answered so with CHIME_DONE; that a PLAY in the place of a waiting chime is tested once, after its entry and that chime's
removal, is the model's choice (log 70). A STOP takes a waiting chime from the list with STOPPED, marks the card's chime on the
voice, answers a card without chime STOPPED, and leaves an ended card's state; every ask's sequence is last taken and
answered. While DETACHED a card is not taken, and a command takes its card whatever the sequence last taken was (log
29). That a refusal sets CHIME_DONE on a card already REFUSED too, and that it and a STOP keep the repetitions done, is
the model's choice (log 50). -/
def Obligations.ChimeAsks : Prop :=
  let plays (c : ChimeCard) : ChimeProgram :=
    if c.source = 0 then .tone c.frequency.toNat c.onTime.toNat c.offTime.toNat else .clip c.clipAddress c.clipCount.toNat
  let heads (l : List Chime) : List Chime := l.takeWhile fun x => x.cls == 0
  let rest (l : List Chime) : List Chime := l.dropWhile fun x => x.cls == 0
  let suppressed (s t : State) (n : Nat) (l : List Chime) : Prop := t.chime.waiting = rest l ∧
    t.chime.suppressed = s.chime.suppressed + wordOfNat (heads l).length ∧
    ∀ k, k < 8 → k ≠ n →
      ((∀ x ∈ heads l, x.source ≠ .card k) → t.card k = s.card k) ∧
      ((∃ x ∈ heads l, x.source = .card k) → (t.card k).state = .suppressed ∧ t.notice.cause.getLsbD 2 = true)
  (∀ (n : Nat) (c : ChimeCard) (s : State), n < 8 → s.shaped → s.port.attached = true →
    s.chime.proximity.active = false →
    let block := s.port.blockCount
    let voice := if s.chime.playsCard n then s.chime.voice.update fun v => { v with owned := false, mark := .silent }
      else s.chime.voice
    (playRefused { c with ask := 1 } = true → ∃ t, exec (.chimePlay n c) s = .next t ∧
      t.card n = ⟨some c.sequence, c.sequence, .refused, (s.card n).done, block⟩ ∧
      t.chime.refused = s.chime.refused + 1 ∧ t.chime.voice = voice ∧ t.chime.takes = s.chime.takes ∧
      t.chime.waiting = s.chime.waiting.filter (fun x => x.source != .card n) ∧
      t.notice = (setFlag .chimeDone s).notice ∧ t.port = s.port ∧ t.mixer = s.mixer) ∧
    (playRefused { c with ask := 1 } = false →
      ∃ t x, exec (.chimePlay n c) s = .next t ∧
        t.card n = ⟨some c.sequence, c.sequence, .waiting, 0, block⟩ ∧
        t.chime.waiting = (insertChime x s.chime.waiting).filter (fun y => y.source != .card n || y.take == x.take) ∧
        (s.chime.waits (.card n) = false → t.chime.waiting = insertChime x s.chime.waiting) ∧
        x.source = .card n ∧ x.cls = c.cls.toNat ∧
        x.take = s.chime.takes + 1 ∧ x.done = 0 ∧ x.level = c.level.toNat ∧ x.repeats = c.repeats.toNat ∧
        x.phonesL = (c.phonesL == 1) ∧ x.phonesR = (c.phonesR == 1) ∧ x.program = plays c ∧
        t.chime.takes = s.chime.takes + 1 ∧ t.chime.voice = voice ∧ t.notice = s.notice ∧ t.port = s.port ∧ t.mixer = s.mixer ∧ t.film = s.film)) ∧
  (∀ (n : Nat) (c : ChimeCard) (s : State), n < 8 → s.shaped → s.port.attached = true →
    s.chime.proximity.active = true → s.chime.waiting = [] → playRefused { c with ask := 1 } = false → c.cls = 0 →
    ∃ t, exec (.chimePlay n c) s = .next t ∧ t.chime.waiting = [] ∧
      t.card n = ⟨some c.sequence, c.sequence, .suppressed, 0, s.port.blockCount⟩ ∧
      t.chime.suppressed = s.chime.suppressed + 1 ∧ t.chime.takes = s.chime.takes + 1 ∧
      t.notice = (setFlag .chimeDone s).notice) ∧
  (∀ (n : Nat) (c : ChimeCard) (q : Word) (s : State), n < 8 → s.shaped → s.port.attached = true →
    s.chime.proximity.active = true →
    let block := s.port.blockCount
    let others := s.chime.waiting.filter fun x => x.source != .card n
    let voice := if s.chime.playsCard n then s.chime.voice.update fun v => { v with owned := false, mark := .silent }
      else s.chime.voice
    (playRefused { c with ask := 1 } = true → ∃ t, exec (.chimePlay n c) s = .next t ∧
      t.card n = ⟨some c.sequence, c.sequence, .refused, (s.card n).done, block⟩ ∧ suppressed s t n others ∧
      t.chime.refused = s.chime.refused + 1 ∧ t.chime.voice = voice ∧ t.notice.cause.getLsbD 2 = true ∧
      t.port = s.port) ∧
    (playRefused { c with ask := 1 } = false → ∃ t x, exec (.chimePlay n c) s = .next t ∧
      x.source = .card n ∧ x.cls = c.cls.toNat ∧ x.take = s.chime.takes + 1 ∧ x.done = 0 ∧
      x.level = c.level.toNat ∧ x.repeats = c.repeats.toNat ∧ x.phonesL = (c.phonesL == 1) ∧
      x.phonesR = (c.phonesR == 1) ∧ x.program = plays c ∧
      t.chime.takes = s.chime.takes + 1 ∧ t.chime.voice = voice ∧ t.port = s.port ∧
      (let l := (insertChime x s.chime.waiting).filter fun y => y.source != .card n || y.take == x.take
       suppressed s t n l ∧ t.card n = ⟨some c.sequence, c.sequence,
         if (heads l).any (fun y => y.source == .card n) then .suppressed else .waiting, 0, block⟩)) ∧
    (s.chime.waits (.card n) = true → ∃ t, exec (.chimeStop n q) s = .next t ∧
      t.card n = ⟨some q, q, .stopped, (s.card n).done, block⟩ ∧ suppressed s t n others ∧
      t.chime.voice = s.chime.voice ∧ t.notice.cause.getLsbD 2 = true ∧ t.port = s.port) ∧
    (s.chime.waits (.card n) = false → s.chime.playsCard n = false → ∃ t, exec (.chimeStop n q) s = .next t ∧
      t.card n = ⟨some q, q, (if (s.card n).state = .none then .stopped else (s.card n).state), (s.card n).done,
        block⟩ ∧ (∀ k, k ≠ n → t.card k = s.card k) ∧ t.chime.waiting = s.chime.waiting ∧
      t.chime.voice = s.chime.voice ∧ t.port = s.port)) ∧
  (∀ (n : Nat) (q : Word) (s : State), n < 8 → s.shaped → s.port.attached = true →
    s.chime.proximity.active = false → s.chime.playsCard n = false →
    let block := s.port.blockCount
    ∃ t, exec (.chimeStop n q) s = .next t ∧
      t.card n = ⟨some q, q, (if s.chime.waits (.card n) = true ∨ (s.card n).state = .none then .stopped
        else (s.card n).state), (s.card n).done, block⟩ ∧
      t.chime.waiting = s.chime.waiting.filter (fun x => x.source != .card n) ∧
      t.notice = (if s.chime.waits (.card n) = true ∨ (s.card n).state = .none then (setFlag .chimeDone s).notice
        else s.notice) ∧
      t.chime.voice = s.chime.voice ∧ t.chime.takes = s.chime.takes ∧ t.port = s.port ∧ t.mixer = s.mixer) ∧
  (∀ (n : Nat) (q : Word) (v : VoiceChime) (s : State), n < 8 → s.shaped → s.port.attached = true →
    s.chime.voice = .sounding v → v.chime.source = .card n → v.owned = true → v.mark = .none →
    s.chime.waits (.card n) = false → ∃ t, exec (.chimeStop n q) s = .next t ∧
      t.chime.voice = .sounding { v with mark := .stopped } ∧
      t.card n = ⟨some q, q, (s.card n).state, (s.card n).done, s.port.blockCount⟩ ∧ t.notice = s.notice) ∧
  (∀ (n : Nat) (c : ChimeCard) (q : Word) (s : State), s.port.attached = false →
    exec (.chimePlay n c) s = .next s ∧ exec (.chimeStop n q) s = .next s) ∧
  (∀ (x : Chime) (l : List Chime), l.Pairwise (fun a b => b.before a = false) → ∃ front back, l = front ++ back ∧
    insertChime x l = front ++ x :: back ∧ (∀ a ∈ front, x.cls < a.cls ∨ (x.cls = a.cls ∧ a.take ≤ x.take)) ∧
    ∀ a ∈ back, a.cls < x.cls ∨ (a.cls = x.cls ∧ x.take < a.take)) ∧
  (∀ c : ChimeCard, playRefused c = false ↔
    (c.cls.toNat ≤ 3 ∧ (c.source = 0 ∨ c.source = 1) ∧
     (c.source = 0 → 200 ≤ c.frequency.toNat ∧ c.frequency.toNat ≤ 4000 ∧ 20 ≤ c.onTime.toNat ∧
       c.onTime.toNat ≤ 2000 ∧ c.offTime.toNat ≤ 2000) ∧
     (c.source = 1 → c.clipAddress.toNat % 2 = 0 ∧ 1 ≤ c.clipCount.toNat ∧ c.clipCount.toNat ≤ 96000) ∧
     (c.level.toNat ≤ 160 ∨ c.level = 255) ∧ c.repeats ≠ 0 ∧ c.phonesL.toNat ≤ 1 ∧ c.phonesR.toNat ≤ 1))

/-- The main voice (R127, R130 to R137, R140, R141). A boundary starts the head on an IDLE voice, lets an ALERT take a
lower class's place, and begins the release of a marked chime. The last sample of a repetition counts it done: at the
repeat count, not 255, the chime finishes and the head follows or the voice is IDLE; otherwise the next repetition
begins, or a head of a higher class takes the voice and the chime goes back with its repetitions done. A chime of a
forgotten tray finishes nothing and is silent to its release, its last repetition counted in the voice's repetitions
done (log 52). The end of a release ends the chime, its card
STOPPED and counted when the mark says so, and the head follows. Wherever a head leaves the list to start, its card is
PLAYING, and while the proximity voice is active the COURTESY chimes that come to the head behind it, a returned one
among them, are suppressed. What finishes is counted for internal chimes too, a stop only for the card's own chime
(log 30); the commands on an IDLE voice change nothing (log 14). The samples of tones, clips and releases are spelled; a
release rounds once (log 9). -/
def Obligations.MainVoice : Prop :=
  let shed (s : State) (l : List Chime) : List Chime :=
    if s.chime.proximity.active then l.takeWhile fun x => x.cls == 0 else []
  let left (s : State) (l : List Chime) : List Chime :=
    if s.chime.proximity.active then l.dropWhile fun x => x.cls == 0 else l
  let starts (s t : State) (x : Chime) (l : List Chime) : Prop :=
    t.chime.voice = .sounding ⟨x, true, .none, 0, 0, false⟩ ∧ t.chime.waiting = left s l ∧
    t.chime.suppressed = s.chime.suppressed + wordOfNat (shed s l).length ∧
    t.mixer.duckHanded = (s.chime.proximity.active || decide (1 ≤ x.cls)) ∧
    (s.shaped → ∀ n, n < 8 →
      ((∃ y ∈ shed s l, y.source = .card n) → (t.card n).state = .suppressed ∧ t.notice.cause.getLsbD 2 = true) ∧
      (x.source = .card n → (∀ y ∈ shed s l, y.source ≠ .card n) → (t.card n).state = .playing))
  (∀ (s : State) (v : VoiceChime), s.chime.voice = .sounding v → v.ended = false →
    let done := v.chime.done + 1
    let goesOn := v.mark ≠ .none ∨ ∀ x, s.chime.waiting.head? = some x → x.cls ≤ v.chime.cls
    (v.chime.repeats ≠ 255 → v.chime.repeats ≤ done → v.mark ≠ .forgotten → s.chime.waiting = [] →
      ∃ t, exec .repetitionEnd s = .next t ∧ t.chime.voice = .idle ∧ t.chime.finished = s.chime.finished + 1 ∧
        t.mixer.duckHanded = s.chime.proximity.active ∧ t.port = s.port ∧ t.film = s.film ∧
        (∀ n, n < 8 → s.shaped → v.chime.source = .card n → v.owned = true →
          t.card n = { s.card n with state := .finished, done := wordOfNat done, blockCount := s.port.blockCount } ∧
          t.notice = (setFlag .chimeDone s).notice)) ∧
    (∀ x rest, v.chime.repeats ≠ 255 → v.chime.repeats ≤ done → v.mark ≠ .forgotten → s.chime.waiting = x :: rest →
      ∃ t, exec .repetitionEnd s = .next t ∧ starts s t x rest ∧ t.chime.finished = s.chime.finished + 1 ∧
        (∀ n, n < 8 → s.shaped → v.chime.source = .card n → v.owned = true → x.source ≠ .card n →
          (∀ y ∈ shed s rest, y.source ≠ .card n) → (t.card n).state = .finished)) ∧
    (v.chime.repeats ≠ 255 → v.chime.repeats ≤ done → v.mark = .forgotten → v.owned = false →
      ∃ t, exec .repetitionEnd s = .next t ∧ t.chime.voice = .sounding { v with
          chime := { v.chime with done := done }, ended := true } ∧
        t.chime.finished = s.chime.finished ∧ t.chime.waiting = s.chime.waiting ∧ t.notice = s.notice) ∧
    ((v.chime.repeats = 255 ∨ done < v.chime.repeats) → goesOn → ∃ t, exec .repetitionEnd s = .next t ∧
      t.chime.voice = .sounding { v with
        chime := { v.chime with done := done }, position := 0, phase := 0, ended := false } ∧
      t.chime.waiting = s.chime.waiting ∧ t.chime.finished = s.chime.finished ∧ t.notice = s.notice ∧
      t.mixer = s.mixer) ∧
    (∀ x rest, (v.chime.repeats = 255 ∨ done < v.chime.repeats) → v.mark = .none → s.chime.waiting = x :: rest →
      v.chime.cls < x.cls → ∃ t, exec .repetitionEnd s = .next t ∧
        starts s t x (insertChime { v.chime with done := done } rest) ∧
        t.chime.returns = s.chime.returns + 1 ∧ t.chime.finished = s.chime.finished)) ∧
  (∀ (s : State) (v : VoiceChime) (m : Nat), s.chime.voice = .releasing v m →
    ∃ t, exec .releaseEnd s = .next t ∧
      (s.chime.waiting = [] → t.chime.voice = .idle ∧ t.mixer.duckHanded = s.chime.proximity.active) ∧
      (∀ x rest, s.chime.waiting = x :: rest → starts s t x rest) ∧
      t.chime.stopped = s.chime.stopped + (if v.mark = .stopped ∧ v.owned = true then 1 else 0) ∧
      (∀ n, n < 8 → s.shaped → v.chime.source = .card n → v.mark = .stopped → v.owned = true →
        (∀ x, s.chime.waiting.head? = some x → x.source ≠ .card n) →
        (∀ y ∈ shed s s.chime.waiting.tail, y.source ≠ .card n) →
        (t.card n).state = .stopped ∧ t.notice.cause.getLsbD 2 = true ∧
        (shed s s.chime.waiting.tail = [] → t.notice = (setFlag .chimeDone s).notice)) ∧
      (v.mark ≠ .stopped → s.chime.waiting = [] → t.notice = s.notice ∧ t.chime.cards = s.chime.cards) ∧
      t.port = s.port) ∧
  (∀ s : State, s.chime.voice = .idle → AnswersNext .repetitionEnd s s ∧ AnswersNext .releaseEnd s s) ∧
  (∀ s : State, ∃ t, exec .audioBlockEnd s = .next t ∧
    (s.chime.voice = .idle → s.chime.waiting = [] → t.chime.voice = .idle) ∧
    (∀ x rest, s.chime.voice = .idle → s.chime.waiting = x :: rest → starts s t x rest) ∧
    (∀ v x rest, s.chime.voice = .sounding v → s.chime.waiting = x :: rest → x.cls = 3 → v.chime.cls < 3 →
      (v.mark = .none → starts s t x (insertChime v.chime rest) ∧ t.chime.returns = s.chime.returns + 1) ∧
      (v.mark ≠ .none → starts s t x rest ∧ t.chime.returns = s.chime.returns) ∧
      (∀ n, n < 8 → s.shaped → v.chime.source = .card n → v.mark = .stopped → v.owned = true → x.source ≠ .card n →
        (∀ y ∈ shed s rest, y.source ≠ .card n) → (t.card n).state = .stopped)) ∧
    (∀ v, s.chime.voice = .sounding v →
      (v.chime.cls = 3 ∨ ∀ x, s.chime.waiting.head? = some x → x.cls < 3) → v.chime.cls ≤ 3 →
      t.chime.voice = (if v.mark = .none then .sounding v else .releasing v 0) ∧
      t.chime.waiting = s.chime.waiting) ∧
    (∀ v m, s.chime.voice = .releasing v m → t.chime.voice = .releasing v m)) ∧
  (∀ (c : ChimeEngine) (v : VoiceChime),
    let value : Int := match v.chime.program with
      | .tone _ on _ =>
        let m := v.position + 1
        if v.ended = false ∧ m ≤ 48 * on then
          (toneEntry (v.phase.toNat / 256) * 256 * (min 240 (min m (48 * on + 1 - m)) : Nat)) / 240
        else 0
      | .clip _ _ =>
        match c.clipGot.find? fun x =>
          x.take == v.chime.take && x.repetition == v.chime.done && x.position == v.position with
        | some x => if v.ended then 0 else 256 * x.value.toInt
        | none => 0
    let zones (x : Int) : PerZone Int := ⟨x, if v.chime.phonesL then x else 0, if v.chime.phonesR then x else 0⟩
    let inner : Bool := v.chime.source == .cameraUnavailable || v.chime.source == .sensingUnavailable
    let g : Int := gainOf v.chime.level
    voiceContribution { c with voice := .sounding v } = [⟨inner, zones ((value * g + 16384) / 32768)⟩] ∧
    (∀ m, m < 240 → voiceContribution { c with voice := .releasing v m } =
      [⟨inner, zones ((value * (239 - (m : Int)) * g + 16384 * 240) / (32768 * 240))⟩]) ∧
    voiceContribution { c with voice := .idle } = [])

/-- The proximity voice (R137 to R140). It is to be active while the reverse showing input is set, the last report
fresh and its D below 1500 mm: on becoming active it starts, or starts after its release, the duck is handed on, and
the COURTESY chimes at the head of the list are suppressed; on becoming inactive a beep is released, and a gap or a
start given up. A report that keeps it active ends a continuous beep only beyond 300 mm. A boundary starts the first
beep. The on time's end opens the gap; the gap's end starts a beep: beyond 300 mm one of 80 ms with the off time
round((D - 300) x 720 / 1200) limited to 40..720 ms, else a continuous one; a release ends where its cause sends it.
The samples are spelled (R134, R136, R139): a tone of 1000 Hz at level 12 into CABIN alone, its phase going on by 1365
a sample, with the envelope of 3840 samples or, of a continuous beep, of its rise alone; that a release has the main
voice's factor over the beep as it goes on is the model's choice (log 58), and it rounds once (log 9). Each of these
commands changes nothing in another state (the model's choice, log 14). -/
def Obligations.ProximityVoice : Prop :=
  let on (s : State) (p : Proximity) : State := { s with chime := { s.chime with proximity := p } }
  (∀ s : State, let p := s.chime.proximity
    (p.state = .beep → p.continuous = false → AnswersNext .beepEnd s (on s { p with state := .gap, position := 0 })) ∧
    (p.state ≠ .beep ∨ p.continuous = true → AnswersNext .beepEnd s s) ∧
    (∀ d, p.state = .gap → p.nearest = some d → 300 < d → AnswersNext .gapEnd s (on s { p with
      state := .beep, position := 0, beepSamples := 0, phase := 0, continuous := false, offTime := offTimeOf d })) ∧
    (∀ d, p.state = .gap → p.nearest = some d → d ≤ 300 → AnswersNext .gapEnd s (on s { p with
      state := .beep, position := 0, beepSamples := 0, phase := 0, continuous := true })) ∧
    (p.state ≠ .gap → AnswersNext .gapEnd s s) ∧
    (p.state = .releasing → AnswersNext .proximityReleaseEnd s (on s { p with
      position := 0
      state := match p.after with | .inactive => .inactive | .gap => .gap | .starting => .starting })) ∧
    (p.state ≠ .releasing → AnswersNext .proximityReleaseEnd s s) ∧
    (∃ t, exec .audioBlockEnd s = .next t ∧ (p.state ≠ .starting → t.chime.proximity = p) ∧
      ∀ d, p.state = .starting → p.nearest = some d →
        t.chime.proximity.state = .beep ∧ t.chime.proximity.phase = 0 ∧
        t.chime.proximity.continuous = decide (d ≤ 300) ∧
        t.chime.proximity.offTime = (if 300 < d then offTimeOf d else p.offTime))) ∧
  (∀ d : Nat, 300 < d → offTimeOf d = max 40 (min 720 ((2 * ((d - 300) * 720) + 1200) / 2400))) ∧
  (∀ (s : State) (tag : Nat) (i : Issued) (bytes : List Byte) (r : Word), s.awaits tag i .vehicle 16 →
    bytes.length = 16 → s.guide.reference = some r → r ≠ wordAt bytes 0 →
    ∃ t, exec (.vehicleRecordReadDone tag (.data bytes)) s = .next t ∧
      t.chime = (evaluateProximity (on s { s.chime.proximity with
        fresh := true, nearest := (sampleOf bytes).nearest })).chime) ∧
  (∀ s : State, let p := s.chime.proximity
    let t := evaluateProximity s
    let q := t.chime.proximity
    let wanted := p.showing = true ∧ p.fresh = true ∧ ∃ d, p.nearest = some d ∧ d < 1500
    (wanted → p.active = false → q.active = true ∧ (p.state = .inactive → q.state = .starting) ∧
      (p.state = .releasing → q.state = .releasing ∧ q.after = .starting) ∧ t.mixer.duckHanded = true ∧
      t.chime.waiting = s.chime.waiting.dropWhile (fun c => c.cls == 0) ∧
      t.chime.suppressed = s.chime.suppressed +
        wordOfNat (s.chime.waiting.takeWhile fun c => c.cls == 0).length ∧
      (∀ n, n < 8 → s.shaped → (∃ c ∈ s.chime.waiting.takeWhile (fun c => c.cls == 0), c.source = .card n) →
        (t.card n).state = .suppressed ∧ t.notice.cause.getLsbD 2 = true)) ∧
    (wanted → p.active = true → q.active = true ∧ t.chime.waiting = s.chime.waiting ∧
      (∀ d, p.nearest = some d → q = if p.state = .beep ∧ p.continuous = true ∧ 300 < d then
        { p with state := .releasing, after := .gap, position := 0, offTime := offTimeOf d } else p)) ∧
    (¬wanted → p.active = true → q.active = false ∧
      (p.state = .beep → q.state = .releasing ∧ q.after = .inactive ∧ q.position = 0) ∧
      (p.state = .gap ∨ p.state = .starting → q.state = .inactive) ∧
      (p.state = .releasing → q.state = .releasing ∧ q.after = .inactive) ∧
      t.mixer.duckHanded = (match s.chime.voice.chime with | none => false | some v => decide (1 ≤ v.chime.cls))) ∧
        (¬wanted → p.active = false → t = s)) ∧
  (∀ p : Proximity,
    let m := p.beepSamples + 1
    let e : Nat := if p.continuous then min 240 m else min 240 (min m (3841 - m))
    let value : Int := (toneEntry (p.phase.toNat / 256) * 256 * e) / 240
    let g : Int := gainOf 12
    let on (x : Proximity) : Proximity := { x with
      position := x.position + 1, beepSamples := x.beepSamples + 1, phase := x.phase + 1365 }
    (p.state = .beep → proximityContribution p = [⟨true, ⟨(value * g + 16384) / 32768, 0, 0⟩⟩] ∧
      p.advance = if p.continuous = false ∧ 3840 ≤ p.position + 1 then { on p with state := .gap, position := 0 }
        else on p) ∧
    (p.state = .releasing → p.position < 240 → proximityContribution p =
        [⟨true, ⟨(value * (239 - (p.position : Int)) * g + 16384 * 240) / (32768 * 240), 0, 0⟩⟩] ∧
      p.advance = if p.position < 239 then on p else { on p with
        position := 0
        state := match p.after with | .inactive => .inactive | .gap => .gap | .starting => .starting }) ∧
    (p.state = .gap → proximityContribution p = [] ∧
      (p.position + 1 < 48 * p.offTime → p.advance = { p with position := p.position + 1 }) ∧
      (48 * p.offTime ≤ p.position + 1 → p.advance.state = .beep ∧ p.advance.position = 0 ∧
        p.advance.beepSamples = 0 ∧ p.advance.phase = 0)) ∧
    (p.state = .inactive ∨ p.state = .starting → proximityContribution p = [] ∧ p.advance = p))

/-! ## The reverse view controller, DIRECT mode and the arbiter (chapters 7, 8) -/

/-- REVERSE_IN (R144, R147, R148, R151, R152). A raw level that comes to differ from the debounced one starts the
timer at 20 ms (960 sample periods), one that returns to it stops it. At the expiry the debounced level takes the raw
one. An assertion in OFF moves to WAKING with the deadline of the kept record, counted, and with the delivery mark set
on to SHOWING with show time 0; in LINGER it stops the linger timer and moves to SHOWING with the mark set, to
UNAVAILABLE with it clear, counted once. A release in WAKING moves to OFF, in SHOWING or UNAVAILABLE to LINGER, or to
OFF with a linger time of 0. A level taken otherwise leaves the view. A change to the present level, and an expiry of
a timer that does not run, change nothing (the model's choice, log 14). -/
def Obligations.ReverseIn : Prop :=
  (∀ (e : Bool) (s : State), s.reverse.raw = e → AnswersNext (.reverseInChange e) s s) ∧
  (∀ (e : Bool) (s : State), s.reverse.raw ≠ e → AnswersNext (.reverseInChange e) s { s with reverse := { s.reverse with
    raw := e, debounce := if e = s.reverse.level then none else some 960 } }) ∧
  (∀ s : State, s.reverse.debounce = none → AnswersNext .debounceExpiry s s) ∧
  (∀ s : State, s.reverse.debounce ≠ none → ∃ t, exec .debounceExpiry s = .next t ∧
    t.reverse.level = s.reverse.raw ∧ t.reverse.raw = s.reverse.raw ∧ t.reverse.debounce = none ∧ t.port = s.port ∧
    t.film = s.film ∧ t.capture.record = s.capture.record ∧
    (s.reverse.raw = true → s.reverse.view = .off → s.reverse.delivered = false →
      t.reverse.view = .waking ∧ t.reverse.engagements = s.reverse.engagements + 1 ∧
      t.reverse.deadline = some (48 * s.capture.record.deadline) ∧ t.reverse.assertedAt = s.audio.now ∧
      t.mixer.reverseHold = true ∧ t.mixer.muteHanded = false ∧ t.capture.hold = true ∧ t.guide.viewDemand = true ∧
      (s.capture.state = .off → s.cameraNeeded = false →
        t.capture.state = .powering ∧ t.capture.settleTimer = some 2400)) ∧
    (s.reverse.raw = true → s.reverse.view = .off → s.reverse.delivered = true →
      t.reverse.view = .showing ∧ t.reverse.engagements = s.reverse.engagements + 1 ∧ t.reverse.deadline = none ∧
      t.reverse.lastShow = some 0 ∧ t.mixer.muteHanded = true) ∧
    (s.reverse.raw = false → s.reverse.view = .waking → t.reverse.view = .off ∧ t.reverse.deadline = none) ∧
    (s.reverse.raw = false → (s.reverse.view = .showing ∨ s.reverse.view = .unavailable) →
      t.reverse.view = (if s.capture.record.linger = 0 then .off else .linger) ∧
      (s.capture.record.linger ≠ 0 → t.reverse.lingerTimer = some (48 * s.capture.record.linger) ∧
        t.capture.hold = true ∧ t.mixer.muteHanded = true)) ∧
    (s.reverse.raw = true → s.reverse.view = .linger → t.reverse.lingerTimer = none ∧
      t.reverse.view = (if s.reverse.delivered then .showing else .unavailable) ∧
      t.reverse.engagements = s.reverse.engagements ∧
      t.reverse.unavailables = s.reverse.unavailables + (if s.reverse.delivered then 0 else 1)) ∧
    (s.reverse.raw = true → (s.reverse.view = .waking ∨ s.reverse.view = .showing ∨ s.reverse.view = .unavailable) →
      t.reverse.view = s.reverse.view) ∧
    (s.reverse.raw = false → (s.reverse.view = .off ∨ s.reverse.view = .linger) →
      t.reverse.view = s.reverse.view))

/-- The timers (R56, R58, R82, R144, R145, R148, R149, R152, R153). The deadline's expiry in WAKING moves to
UNAVAILABLE, counted twice, with the reverse mute and the chime asked for; the linger timer's expiry in LINGER moves
to OFF with every output dropped and both timers stopped. Elsewhere the commands for neither do anything (the model's
choice, log 14). In a sample period, which passes while no command waits (log 3), each of the seven timers that run
goes one period on; one that comes to its end expires in that period, and a timer that starts in a period runs its
whole time after it, the deadline of a legal kept record (R73, R76; BoundsAreKept says that it stays legal) among them.
-/
def Obligations.ViewTimers : Prop :=
  (∀ s : State, s.reverse.view = .waking → s.reverse.deadline ≠ none → ∃ t, exec .deadlineExpiry s = .next t ∧
    t.reverse = { s.reverse with
      view := .unavailable
      deadline := none
      expiries := s.reverse.expiries + 1
      unavailables := s.reverse.unavailables + 1 } ∧
    t.mixer.muteHanded = true ∧ t.mixer.reverseHold = true ∧ t.capture.hold = true ∧ t.guide.viewDemand = true ∧
    t.chime.proximity.showing = false ∧
    (s.chime.waits .cameraUnavailable = true ∨ s.chime.plays .cameraUnavailable = true →
      t.chime.droppedRequests = s.chime.droppedRequests + 1) ∧
    (s.chime.waits .cameraUnavailable = false → s.chime.plays .cameraUnavailable = false →
      t.chime.waits .cameraUnavailable = true) ∧
    (s.chime.proximity.active = false → t.notice = (setFlag .reverseChange s).notice) ∧
    t.port = s.port ∧ t.composers = s.composers ∧ t.film = s.film) ∧
  (∀ s : State, (s.reverse.view ≠ .waking ∨ s.reverse.deadline = none) → AnswersNext .deadlineExpiry s s) ∧
  (∀ s : State, s.reverse.view = .linger → s.reverse.lingerTimer ≠ none → ∃ t, exec .lingerExpiry s = .next t ∧
    t.reverse.view = .off ∧ t.reverse.deadline = none ∧ t.reverse.lingerTimer = none ∧
    t.reverse.level = s.reverse.level ∧ t.reverse.engagements = s.reverse.engagements ∧
    t.mixer.muteHanded = false ∧ t.mixer.reverseHold = false ∧ t.capture.hold = false ∧ t.guide.viewDemand = false ∧
    t.chime.proximity.showing = false ∧ t.notice.cause.getLsbD 4 = true ∧ t.port = s.port ∧ t.film = s.film ∧
    t.capture.record = s.capture.record) ∧
  (∀ s : State, (s.reverse.view ≠ .linger ∨ s.reverse.lingerTimer = none) → AnswersNext .lingerExpiry s s) ∧
  (∀ s : State, s.pending = [] → s.audio.position < 255 → s.arbiter.path = none → s.arbiter.outstanding = [] →
    let timers (x : State) : List (Option Nat) := [x.capture.settleTimer, x.capture.stepTimer, x.capture.lossTimer,
      x.guide.timer, x.reverse.debounce, x.reverse.deadline, x.reverse.lingerTimer]
    let none1 := [none, none, none, none, none, none, (none : Option Nat)]
    ∃ t, step s = .next t ∧
      ((∀ x ∈ timers s, ∀ n, x = some n → 2 ≤ n) → timers t = (timers s).map (fun x => x.map (· - 1)) ∧
        t.capture.state = s.capture.state ∧ t.reverse.view = s.reverse.view ∧ t.reverse.level = s.reverse.level ∧
        t.guide.freshness = s.guide.freshness) ∧
      (timers s = none1.set 0 (some 1) → s.capture.state = .powering → s.capture.script = [] →
        t.capture.state = .armed ∧ timers t = none1.set 2 (some 4800)) ∧
      (∀ ms rest, timers s = none1.set 0 (some 1) → s.capture.state = .powering → s.capture.script = .wait ms :: rest →
        1 ≤ ms → t.capture.state = .setup ∧ t.capture.scriptStep = 0 ∧ timers t = none1.set 1 (some (48 * ms))) ∧
      (timers s = none1.set 1 (some 1) → s.capture.state = .setup → s.capture.scriptStep + 1 = s.capture.script.length →
        t.capture.state = .armed ∧ timers t = none1.set 2 (some 4800)) ∧
      (timers s = none1.set 2 (some 1) → s.capture.state = .armed →
        t.capture.state = .lost ∧ t.capture.lossTimer = none ∧ t.capture.losses = s.capture.losses + 1) ∧
      (timers s = none1.set 3 (some 1) → s.guide.freshness = .fresh →
        t.guide.freshness = .held ∧ timers t = none1.set 3 (some 14400)) ∧
      (s.recordLegal → timers s = none1.set 4 (some 1) → s.reverse.raw = true → s.reverse.view = .off →
        s.reverse.delivered = false →
        t.reverse.level = true ∧ t.reverse.view = .waking ∧ t.reverse.debounce = none ∧
        t.reverse.deadline = some (48 * s.capture.record.deadline)) ∧
      (timers s = none1.set 5 (some 1) → s.reverse.view = .waking →
        t.reverse.view = .unavailable ∧ t.reverse.deadline = none ∧ t.reverse.expiries = s.reverse.expiries + 1) ∧
      (timers s = none1.set 6 (some 1) → s.reverse.view = .linger →
        t.reverse.view = .off ∧ t.reverse.lingerTimer = none))

/-- DIRECT mode (R154, R159, R160, R65). A frame start code of a kept frame locks FRONT when DIRECT is wanted, the leave
mark clear, and FRONT in DIRECT or no notice shown, which leaves the move to the next FRONT frame start: FRONT is in
DIRECT and locked, a consumer of the camera frame, with a frame that takes it direct at the camera's size and, unless it
is a restart frame, is drawn by the stack of R155. A kept frame still open at the code is closed first, and without the
writer completes, a whole one delivered, or waits closed for its lines to be written. A line that a DIRECT_LINE_START
has begun is output first, and the frame it was in ends with the lateness of that line and of those before it alone. A
locked generator without a frame, and without the leave mark, may start a frame of its own, which takes none and is not
locked. The next line of a locked frame begins once every row its taps reach is in the line buffer, or the direct frame
is closed, and waits until then; FRONT still needs a row that a line to come needs, one whose weight there is 0 too (the
model's reading, log 23). The two commands outside their states change nothing (the model's choice, log 14). -/
def Obligations.DirectMode : Prop :=
  let locks (s t : State) : Prop := ∃ f k,
    t.frontView.mode = .direct ∧ t.frontView.locked = true ∧ t.begins .front f ∧
    (f.blank = false → ReverseStack t f) ∧ LatchesBank .front s t ∧ CardsFollow [.front] s t ∧
    t.composers.front.timing = s.composers.front.waiting.getD s.composers.front.timing ∧
    f.direct = some ⟨s.capture.nextFrame, false, s.capture.record.width, s.capture.record.height⟩ ∧
    f.locked = true ∧ t.composers.front.blank = s.composers.front.waiting.isSome ∧
    t.capture.frames.getLast? = some k ∧ k.id = s.capture.nextFrame ∧ k.toFront = true ∧
    t.capture.state = .capturing ∧ t.port = s.port ∧
    (∀ g, s.composers.front.frame = some g → g.blank = false →
      let begun := g.lineStarted = true ∧ g.nextLine < g.height
      let late := g.late = true ∨
        (begun ∧ ∃ l ∈ g.layers, l.covers g.nextLine = true ∧ layerLine s g l g.nextLine = none)
      let history := (if late then .late else .onTime) :: s.composers.front.history.take 7
      t.composers.front.lateFrames = s.composers.front.lateFrames + (if late then 1 else 0) ∧
      t.composers.front.history = (Composer.evaluate { s.composers.front with history := history }).history ∧
      (begun → t.composers.front.output.length = g.width) ∧
      (¬begun → t.composers.front.output = s.composers.front.output))
  (∀ s : State, s.locksFront = true ↔ s.wantedMode = .direct ∧ s.frontView.leave = false ∧
    (s.frontView.mode = .direct ∨
      (s.reverse.view ≠ .unavailable ∧ (s.reverse.view = .linger → s.reverse.delivered = true)))) ∧
  (∀ (number : Byte) (s : State), s.locksFront = true →
    (s.capture.state = .armed ∨ s.capture.state = .lost ∨
      (s.capture.state = .capturing ∧ s.capture.openKept = false ∧
        s.capture.decimation = s.capture.record.decimation)) →
    ∃ t, exec (.frameStartCode number) s = .next t ∧ locks s t ∧ t.mixer = s.mixer) ∧
  (∀ (number : Byte) (s : State) (o : KeptFrame), s.locksFront = true → s.capture.state = .capturing →
    s.capture.openFrame = .kept o.id → s.capture.frames = [o] → o.faulted = false →
    s.capture.decimation = s.capture.record.decimation →
    (o.toWriter = false ∨ (o.target ≠ none ∧ ∃ l ∈ s.capture.buffer, l.frame = o.id ∧ l.forWriter = true)) →
    let rest := s.capture.record.height - o.expected
    let bad := o.missing + rest ≠ 0 ∨ s.capture.record.threshold < o.suspect ∨ o.overrun = true
    ∃ t k, exec (.frameStartCode number) s = .next t ∧ locks s t ∧
      t.capture.openFrame = .kept k.id ∧ k.id = s.capture.nextFrame ∧ k.number = number ∧ k.toFront = true ∧
      t.capture.missingLines = s.capture.missingLines + wordOfNat rest ∧
      (o.toWriter = false → t.capture.frames = [k] ∧ t.capture.whole = s.capture.whole + (if bad then 0 else 1) ∧
        t.capture.spoiled = s.capture.spoiled + (if bad then 1 else 0) ∧
        (¬bad → o.toFront = true → ViewDelivered true s t) ∧
        (bad ∨ o.toFront = false → t.reverse = s.reverse ∧ t.mixer = s.mixer)) ∧
      (o.toWriter = true → t.capture.frames =
          [{ o with missing := o.missing + rest, closed := true, spoiled := decide bad }, k] ∧
        t.reverse = s.reverse ∧ t.mixer = s.mixer)) ∧
  (∀ s : State, s.frontView.mode = .direct → s.frontView.locked = true → s.frontView.leave = false →
    s.composers.front.frame = none → ∃ t f, exec .directFreeRunStart s = .next t ∧
      t.frontView.mode = .direct ∧ t.frontView.locked = false ∧ t.begins .front f ∧ f.direct = none ∧
      f.locked = false ∧ (f.blank = false → ReverseStack t f) ∧ LatchesBank .front s t ∧ CardsFollow [.front] s t ∧
      t.port = s.port ∧ t.mixer = s.mixer ∧ t.reverse = s.reverse) ∧
  (∀ s : State, (s.frontView.mode ≠ .direct ∨ s.frontView.locked = false ∨ s.frontView.leave = true ∨
    s.composers.front.frame ≠ none) → AnswersNext .directFreeRunStart s s) ∧
  (∀ (s : State) (f : Frame), s.composers.front.frame = some f → f.locked = true → f.nextLine < f.height →
    let waits := ∃ d l r, f.direct = some d ∧ d.closed = false ∧ l ∈ f.layers ∧ l.source = .direct ∧
      r ∈ l.needs f.level d.height f.nextLine ∧ ∀ b ∈ s.capture.buffer, b.frame = d.frame → b.row ≠ r
    (¬waits → AnswersNext .directLineStart s { s with composers := { s.composers with
      front := { s.composers.front with frame := some { f with lineStarted := true } } } }) ∧
    (waits → AnswersNext .directLineStart s s)) ∧
  (∀ (s : State) (frame row : Nat), frontUses s frame row = true ↔ ∃ f d l y, s.composers.front.frame = some f ∧
    f.direct = some d ∧ d.frame = frame ∧ l ∈ f.layers ∧ l.source = .direct ∧ f.nextLine ≤ y ∧ y < f.height ∧
    row ∈ l.needs f.level d.height (y : Nat)) ∧
  (∀ (s : State) (f : Frame), s.composers.front.frame = some f → (f.locked = false ∨ f.height ≤ f.nextLine) →
    AnswersNext .directLineStart s s) ∧
  (∀ s : State, s.composers.front.frame = none → AnswersNext .directLineStart s s)

/-- The grant (R166 to R169, R192). With the path free and no message to be sent first, the request granted is the
first, in the order of the classes, that waits and is eligible: a write, or a read while fewer than 16 are outstanding.
The order is audio, FRONT, store writer, rear clients from the rear pointer on, poller, with the store writer before all
while 4 of its lines are in the line buffer (which lines count is the model's reading, log 42). It is issued with a new
tag, a read outstanding from then on, the rear pointer is at the client after a rear one granted, and it waits at its
client no more: where each request waits at its own client, an invariant that MemoryAndShapeAreKept states, the poller's
order or the audio fetcher's queue loses its first and nothing else of either changes; a row is fetched from its next
byte on or is done, a line's bursts go on. With no such request, or a write on the path, nothing is granted. That a read
leaves the path free is log 20, the tags are log 4, and whether the link is up for a pending message is a free value
(log 38). -/
def Obligations.Grant : Prop :=
  (∀ s : State, s.notice.message = true →
    Config.linkUp s.audio.now s.arbiter.nextTag = false ∨ AnswersNext .requestGrant s s) ∧
  (∀ s : State, (s.notice.message = false ∨ Config.linkUp s.audio.now s.arbiter.nextTag = false) →
    (s.arbiter.path = none ∨ ∃ i, s.arbiter.path = some i ∧ i.request.isRead = true) →
    (∀ (before after : List Client) (c : Client) (r : Request), grantOrder s = before ++ c :: after →
      waitingRequest s c = some r → (r.isRead = true → s.arbiter.outstanding.length < 16) →
      (∀ x ∈ before, ∀ q, waitingRequest s x = some q → q.isRead = true ∧ 16 ≤ s.arbiter.outstanding.length) →
      ∃ t, exec .requestGrant s = .next t ∧ t.arbiter.path = some ⟨s.arbiter.nextTag, r, true, 0⟩ ∧
        t.arbiter.outstanding = s.arbiter.outstanding ++
          (if r.isRead then [⟨s.arbiter.nextTag, r, true, 0⟩] else []) ∧
        t.arbiter.rearTurn = turnAfter r.client s.arbiter.rearTurn ∧ t.arbiter.nextTag = s.arbiter.nextTag + 1 ∧
        t.port = s.port ∧ t.notice = s.notice ∧ t.mixer = s.mixer ∧ t.film = s.film ∧ t.chime = s.chime ∧
        (∀ a, t.memory.read a = s.memory.read a) ∧
        (s.requestsOwned →
          t.poller = { s.poller with order := if c = .poller then s.poller.order.tail else s.poller.order } ∧
          t.audio = { s.audio with queue := if c = .audio then s.audio.queue.tail else s.audio.queue }) ∧
        (∀ d f x rest l p, c = displayClient d → (s.composer d).frame = some f → f.plan = x :: rest →
          f.layers[x.layer]? = some l → l.source.pixels = some p → ∃ g n, (t.composer d).frame = some g ∧
            r.work = .read (.layerRow d f.serial x.layer x.row x.offset) n ∧
            g = { f with plan := if p.rowBytes ≤ x.offset + n then rest
              else { x with offset := x.offset + n } :: rest }) ∧
        (∀ x rest, c = .twin → s.twin.plan = x :: rest → ∃ n,
          r.work = .read (.twinRow s.twin.serial x.row x.offset) n ∧
          t.twin = { s.twin with plan := if s.twin.pixels.rowBytes ≤ x.offset + n then rest
            else { x with offset := x.offset + n } :: rest }) ∧
        (∀ frame row bytes, c = .storeWriter → r.work = .store frame row bytes →
          t.capture = { s.capture with buffer := s.capture.buffer.map fun l =>
            if l.frame = frame ∧ l.row = row then { l with issued := l.issued + bytes.length } else l })) ∧
    ((∀ c ∈ grantOrder s, ∀ q, waitingRequest s c = some q → q.isRead = true ∧ 16 ≤ s.arbiter.outstanding.length) →
      AnswersNext .requestGrant s s)) ∧
  (∀ (s : State) (i : Issued), s.arbiter.path = some i → i.request.isRead = false → AnswersNext .requestGrant s s) ∧
  (∀ s : State, grantOrder s =
    (if 4 ≤ (s.capture.buffer.filter (·.counted)).length then [.storeWriter] else []) ++ [.audio, .front, .storeWriter] ++
      (match s.arbiter.rearTurn with
        | .rearL => [.rearL, .twin, .rearR]
        | .twin => [.twin, .rearR, .rearL]
        | .rearR => [.rearR, .rearL, .twin]) ++ [.poller])

/-- Faults (R171, R173, R174). A request reported at fault, a read with no completion in 8 ms and a request that
cannot be sent each end: the client's and the total count go up, the last fault is recorded, LINK_FAULT set, and while
ATTACHED the consecutive count goes up; the read is outstanding no more. At 16 the part detaches itself with
READ_FAULT and AREA_FAULT, every consecutive count 0. A completion with an error, corrupted or of another length is
such a fault. The fault of a store write sets the frame's fault mark, and the writer gives up the lines it held of the
frame, those of no other consumer leaving the buffer, so that it writes no more of it; a closed frame completes spoiled
with it, nothing published, and the writer goes on to the next frame, or the camera that waited in STOPPING is OFF, or on
in POWERING when it is needed (R63, R69, R70, R172). In a sample period, which passes while no command waits (log 3),
each issued request is one period older, and one of 8 ms (384 periods) ends so. A fault or a SEND_TIMEOUT that names the
request on the path is log 31, a read still on the path at 8 ms that ends with TIMEOUT is log 49, and a tag that names no request changes nothing
(the model's choice, log 14). -/
def Obligations.RequestFaults : Prop :=
  let ends (s : State) (i : Issued) (k : FaultKind) (c : Instr) : Prop := ∃ t, exec c s = .next t ∧
    t.arbiter.faults = s.arbiter.faults.update i.request.client (fun n => n + 1) ∧
    t.arbiter.total = s.arbiter.total + 1 ∧
    t.arbiter.lastFault = some ⟨i.request.client, k, i.request.addr⟩ ∧
    t.notice.cause.getLsbD 6 = true ∧ (∀ j ∈ t.arbiter.outstanding, j.tag ≠ i.tag) ∧
    (∀ a, t.memory.read a = s.memory.read a) ∧
    (s.port.attached = false → t.port.attached = false ∧ t.arbiter.consecutive = s.arbiter.consecutive) ∧
    (s.port.attached = true → s.arbiter.consecutive.get i.request.client < 15 → t.port = s.port ∧
      t.arbiter.consecutive = s.arbiter.consecutive.update i.request.client (fun n => n + 1)) ∧
    (s.port.attached = true → 15 ≤ s.arbiter.consecutive.get i.request.client →
      t.port = { s.port with attached := false, attachResult := .readFault } ∧
      t.arbiter.consecutive = ⟨0, 0, 0, 0, 0, 0, 0⟩ ∧ t.notice.cause.getLsbD 5 = true ∧
      t.notice.lastFault = some ⟨.selfDetach, i.request.client.code, s.port.blockCount⟩)
  (∀ (s : State) (tag : Nat) (i : Issued), s.outstandingAt tag = some i →
    (∀ k, ends s i k (.linkRequestFault tag k)) ∧ ends s i .timeout (.readTimeout tag)) ∧
  (∀ (s : State) (i : Issued), s.arbiter.path = some i →
    ends s i .notSent .sendTimeout ∧
    (s.outstandingAt i.tag = none → ∀ k, ends s i k (.linkRequestFault i.tag k))) ∧
  (∀ (s : State) (tag : Nat) (i : Issued) (what : ReadOf) (n : Nat), s.awaits tag i what n →
    exec (what.completedBy tag .error) s = exec (.linkRequestFault tag .error) s ∧
    exec (what.completedBy tag .corrupted) s = exec (.linkRequestFault tag .corrupted) s ∧
    ∀ bytes : List Byte, bytes.length ≠ n →
      exec (what.completedBy tag (.data bytes)) s = exec (.linkRequestFault tag .length) s) ∧
  (∀ (s : State) (tag : Nat), s.outstandingAt tag = none → AnswersNext (.readTimeout tag) s s ∧
    ((∀ i, s.arbiter.path = some i → i.tag ≠ tag) → ∀ k, AnswersNext (.linkRequestFault tag k) s s)) ∧
  (∀ s : State, s.arbiter.path = none → AnswersNext .sendTimeout s s) ∧
  (∀ (s : State) (i : Issued) (bytes : List Byte) (row : Nat) (f : KeptFrame) (later : List KeptFrame) (c : Instr),
    s.arbiter.path = some i → i.request.work = .store f.id row bytes → s.capture.frames = f :: later →
    f.toWriter = true → f.target ≠ none → (∀ x ∈ later, x.id ≠ f.id ∧ x.closed = false) →
    (s.port.attached = true → s.arbiter.consecutive.get i.request.client < 15) →
    (c = .sendTimeout ∨ (s.outstandingAt i.tag = none ∧ ∃ k, c = .linkRequestFault i.tag k)) →
    let kept := (s.capture.buffer.map fun l =>
      if l.frame = f.id then { l with forWriter := false, counted := false } else l).filter fun l =>
        l.forWriter || l.forFront
    let history := FrameMark.bad :: s.capture.history.take 7
    let poor := if 4 ≤ history.count .bad then true else if history.count .bad ≤ 2 then false else s.capture.poor
    let ended := { s.capture with
      buffer := kept, spoiled := s.capture.spoiled + 1, history := history, poor := poor }
    ∃ t, exec c s = .next t ∧ t.film = s.film ∧ t.port = s.port ∧ t.mixer = s.mixer ∧ t.arbiter.path = none ∧
      (s.capture.state ≠ .stopping → t.composers = s.composers) ∧
      ((∀ l ∈ s.capture.buffer, l.forWriter = true → l.frame = f.id) → waitingRequest t .storeWriter = none) ∧
      (f.closed = false → t.capture = { s.capture with frames := { f with faulted := true } :: later, buffer := kept } ∧
        t.notice = (setFlag .linkFault s).notice ∧ t.reverse = s.reverse) ∧
      (f.closed = true → later = [] → s.capture.state ≠ .stopping →
        t.capture = { ended with frames := [] } ∧ t.reverse = s.reverse) ∧
      (∀ x, f.closed = true → later = [x] → x.toWriter = true → x.target = none → ∃ n, n < 3 ∧
        t.capture = { ended with frames := [{ x with target := some n }] } ∧ t.reverse = s.reverse ∧
        (∀ p, s.capture.published = some p → p.store ≠ n) ∧ s.capture.frontReading ≠ some n ∧
        ∀ m, m < n → (∃ p, s.capture.published = some p ∧ p.store = m) ∨ s.capture.frontReading = some m) ∧
      (f.closed = true → later = [] → s.capture.state = .stopping → (∀ id, s.capture.openFrame ≠ .kept id) →
        t.capture.state = (if s.cameraNeeded then .powering else .off) ∧ t.camPwr = s.cameraNeeded ∧
        t.capture.frames = [] ∧ t.capture.buffer = kept ∧ t.capture.spoiled = s.capture.spoiled + 1 ∧
        t.capture.whole = s.capture.whole ∧ t.capture.publications = s.capture.publications ∧
        t.capture.published = none ∧ t.reverse = { s.reverse with delivered := false })) ∧
  (∀ (s : State) (i : Issued), s.pending = [] → s.audio.position < 255 →
    ((s.arbiter.outstanding = [i] ∧ s.arbiter.path = none ∧ i.request.isRead = true) ∨
      (s.arbiter.outstanding = [] ∧ s.arbiter.path = some i ∧ i.request.isRead = false)) →
    ∃ t, step s = .next t ∧
      (i.age < 383 → t.arbiter.total = s.arbiter.total ∧
        t.arbiter.outstanding = s.arbiter.outstanding.map (fun j => { j with age := j.age + 1 }) ∧
        t.arbiter.path = s.arbiter.path.map (fun j => { j with age := j.age + 1 })) ∧
      (383 ≤ i.age → t.arbiter.total = s.arbiter.total + 1 ∧ t.arbiter.outstanding = [] ∧ t.arbiter.path = none ∧
        t.arbiter.lastFault = some ⟨i.request.client, (if i.request.isRead then .timeout else .notSent),
          i.request.addr⟩))
end

