-- ==== Sys2Proof/Laws/State.lean ====
section
/-! SUPPORT. One lemma for each field of State after each of its block updates, true by rfl, so that no later proof
unfolds a record update; and what a member of a family reads as after an update of a member. -/

namespace Sys2Proof.Machine

/-! ### State.onComposer -/

section
variable (d : Display) (f : Composer → Composer) (s : State)

@[simp] theorem State.onComposer_port : (s.onComposer d f).port = s.port := rfl
@[simp] theorem State.onComposer_notice : (s.onComposer d f).notice = s.notice := rfl
@[simp] theorem State.onComposer_arbiter : (s.onComposer d f).arbiter = s.arbiter := rfl
@[simp] theorem State.onComposer_poller : (s.onComposer d f).poller = s.poller := rfl
@[simp] theorem State.onComposer_composers : (s.onComposer d f).composers = s.composers.update d f := rfl
@[simp] theorem State.onComposer_pairStarting : (s.onComposer d f).pairStarting = s.pairStarting := rfl
@[simp] theorem State.onComposer_twin : (s.onComposer d f).twin = s.twin := rfl
@[simp] theorem State.onComposer_frontView : (s.onComposer d f).frontView = s.frontView := rfl
@[simp] theorem State.onComposer_film : (s.onComposer d f).film = s.film := rfl
@[simp] theorem State.onComposer_capture : (s.onComposer d f).capture = s.capture := rfl
@[simp] theorem State.onComposer_guide : (s.onComposer d f).guide = s.guide := rfl
@[simp] theorem State.onComposer_mixer : (s.onComposer d f).mixer = s.mixer := rfl
@[simp] theorem State.onComposer_chime : (s.onComposer d f).chime = s.chime := rfl
@[simp] theorem State.onComposer_reverse : (s.onComposer d f).reverse = s.reverse := rfl
@[simp] theorem State.onComposer_audio : (s.onComposer d f).audio = s.audio := rfl
@[simp] theorem State.onComposer_memory : (s.onComposer d f).memory = s.memory := rfl
@[simp] theorem State.onComposer_pending : (s.onComposer d f).pending = s.pending := rfl

end

/-! ### State.onStream -/

section
variable (st : Stream) (f : Film → Film) (s : State)

@[simp] theorem State.onStream_port : (s.onStream st f).port = s.port := rfl
@[simp] theorem State.onStream_notice : (s.onStream st f).notice = s.notice := rfl
@[simp] theorem State.onStream_arbiter : (s.onStream st f).arbiter = s.arbiter := rfl
@[simp] theorem State.onStream_poller : (s.onStream st f).poller = s.poller := rfl
@[simp] theorem State.onStream_composers : (s.onStream st f).composers = s.composers := rfl
@[simp] theorem State.onStream_pairStarting : (s.onStream st f).pairStarting = s.pairStarting := rfl
@[simp] theorem State.onStream_twin : (s.onStream st f).twin = s.twin := rfl
@[simp] theorem State.onStream_frontView : (s.onStream st f).frontView = s.frontView := rfl
@[simp] theorem State.onStream_film : (s.onStream st f).film = s.film.update st f := rfl
@[simp] theorem State.onStream_capture : (s.onStream st f).capture = s.capture := rfl
@[simp] theorem State.onStream_guide : (s.onStream st f).guide = s.guide := rfl
@[simp] theorem State.onStream_mixer : (s.onStream st f).mixer = s.mixer := rfl
@[simp] theorem State.onStream_chime : (s.onStream st f).chime = s.chime := rfl
@[simp] theorem State.onStream_reverse : (s.onStream st f).reverse = s.reverse := rfl
@[simp] theorem State.onStream_audio : (s.onStream st f).audio = s.audio := rfl
@[simp] theorem State.onStream_memory : (s.onStream st f).memory = s.memory := rfl
@[simp] theorem State.onStream_pending : (s.onStream st f).pending = s.pending := rfl

end

/-! ### State.onRoute -/

section
variable (r : Route) (f : RouteState → RouteState) (s : State)

@[simp] theorem State.onRoute_port : (s.onRoute r f).port = s.port := rfl
@[simp] theorem State.onRoute_notice : (s.onRoute r f).notice = s.notice := rfl
@[simp] theorem State.onRoute_arbiter : (s.onRoute r f).arbiter = s.arbiter := rfl
@[simp] theorem State.onRoute_poller : (s.onRoute r f).poller = s.poller := rfl
@[simp] theorem State.onRoute_composers : (s.onRoute r f).composers = s.composers := rfl
@[simp] theorem State.onRoute_pairStarting : (s.onRoute r f).pairStarting = s.pairStarting := rfl
@[simp] theorem State.onRoute_twin : (s.onRoute r f).twin = s.twin := rfl
@[simp] theorem State.onRoute_frontView : (s.onRoute r f).frontView = s.frontView := rfl
@[simp] theorem State.onRoute_film : (s.onRoute r f).film = s.film := rfl
@[simp] theorem State.onRoute_capture : (s.onRoute r f).capture = s.capture := rfl
@[simp] theorem State.onRoute_guide : (s.onRoute r f).guide = s.guide := rfl
@[simp] theorem State.onRoute_mixer : (s.onRoute r f).mixer = { s.mixer with routes := s.mixer.routes.update r.stream fun p => p.update r.zone f } := rfl
@[simp] theorem State.onRoute_chime : (s.onRoute r f).chime = s.chime := rfl
@[simp] theorem State.onRoute_reverse : (s.onRoute r f).reverse = s.reverse := rfl
@[simp] theorem State.onRoute_audio : (s.onRoute r f).audio = s.audio := rfl
@[simp] theorem State.onRoute_memory : (s.onRoute r f).memory = s.memory := rfl
@[simp] theorem State.onRoute_pending : (s.onRoute r f).pending = s.pending := rfl

end

/-! ### State.onPort -/

section
variable (f : Port → Port) (s : State)

@[simp] theorem State.onPort_port : (s.onPort f).port = f s.port := rfl
@[simp] theorem State.onPort_notice : (s.onPort f).notice = s.notice := rfl
@[simp] theorem State.onPort_arbiter : (s.onPort f).arbiter = s.arbiter := rfl
@[simp] theorem State.onPort_poller : (s.onPort f).poller = s.poller := rfl
@[simp] theorem State.onPort_composers : (s.onPort f).composers = s.composers := rfl
@[simp] theorem State.onPort_pairStarting : (s.onPort f).pairStarting = s.pairStarting := rfl
@[simp] theorem State.onPort_twin : (s.onPort f).twin = s.twin := rfl
@[simp] theorem State.onPort_frontView : (s.onPort f).frontView = s.frontView := rfl
@[simp] theorem State.onPort_film : (s.onPort f).film = s.film := rfl
@[simp] theorem State.onPort_capture : (s.onPort f).capture = s.capture := rfl
@[simp] theorem State.onPort_guide : (s.onPort f).guide = s.guide := rfl
@[simp] theorem State.onPort_mixer : (s.onPort f).mixer = s.mixer := rfl
@[simp] theorem State.onPort_chime : (s.onPort f).chime = s.chime := rfl
@[simp] theorem State.onPort_reverse : (s.onPort f).reverse = s.reverse := rfl
@[simp] theorem State.onPort_audio : (s.onPort f).audio = s.audio := rfl
@[simp] theorem State.onPort_memory : (s.onPort f).memory = s.memory := rfl
@[simp] theorem State.onPort_pending : (s.onPort f).pending = s.pending := rfl

end

/-! ### State.onNotice -/

section
variable (f : Notice → Notice) (s : State)

@[simp] theorem State.onNotice_port : (s.onNotice f).port = s.port := rfl
@[simp] theorem State.onNotice_notice : (s.onNotice f).notice = f s.notice := rfl
@[simp] theorem State.onNotice_arbiter : (s.onNotice f).arbiter = s.arbiter := rfl
@[simp] theorem State.onNotice_poller : (s.onNotice f).poller = s.poller := rfl
@[simp] theorem State.onNotice_composers : (s.onNotice f).composers = s.composers := rfl
@[simp] theorem State.onNotice_pairStarting : (s.onNotice f).pairStarting = s.pairStarting := rfl
@[simp] theorem State.onNotice_twin : (s.onNotice f).twin = s.twin := rfl
@[simp] theorem State.onNotice_frontView : (s.onNotice f).frontView = s.frontView := rfl
@[simp] theorem State.onNotice_film : (s.onNotice f).film = s.film := rfl
@[simp] theorem State.onNotice_capture : (s.onNotice f).capture = s.capture := rfl
@[simp] theorem State.onNotice_guide : (s.onNotice f).guide = s.guide := rfl
@[simp] theorem State.onNotice_mixer : (s.onNotice f).mixer = s.mixer := rfl
@[simp] theorem State.onNotice_chime : (s.onNotice f).chime = s.chime := rfl
@[simp] theorem State.onNotice_reverse : (s.onNotice f).reverse = s.reverse := rfl
@[simp] theorem State.onNotice_audio : (s.onNotice f).audio = s.audio := rfl
@[simp] theorem State.onNotice_memory : (s.onNotice f).memory = s.memory := rfl
@[simp] theorem State.onNotice_pending : (s.onNotice f).pending = s.pending := rfl

end

/-! ### State.onArbiter -/

section
variable (f : Arbiter → Arbiter) (s : State)

@[simp] theorem State.onArbiter_port : (s.onArbiter f).port = s.port := rfl
@[simp] theorem State.onArbiter_notice : (s.onArbiter f).notice = s.notice := rfl
@[simp] theorem State.onArbiter_arbiter : (s.onArbiter f).arbiter = f s.arbiter := rfl
@[simp] theorem State.onArbiter_poller : (s.onArbiter f).poller = s.poller := rfl
@[simp] theorem State.onArbiter_composers : (s.onArbiter f).composers = s.composers := rfl
@[simp] theorem State.onArbiter_pairStarting : (s.onArbiter f).pairStarting = s.pairStarting := rfl
@[simp] theorem State.onArbiter_twin : (s.onArbiter f).twin = s.twin := rfl
@[simp] theorem State.onArbiter_frontView : (s.onArbiter f).frontView = s.frontView := rfl
@[simp] theorem State.onArbiter_film : (s.onArbiter f).film = s.film := rfl
@[simp] theorem State.onArbiter_capture : (s.onArbiter f).capture = s.capture := rfl
@[simp] theorem State.onArbiter_guide : (s.onArbiter f).guide = s.guide := rfl
@[simp] theorem State.onArbiter_mixer : (s.onArbiter f).mixer = s.mixer := rfl
@[simp] theorem State.onArbiter_chime : (s.onArbiter f).chime = s.chime := rfl
@[simp] theorem State.onArbiter_reverse : (s.onArbiter f).reverse = s.reverse := rfl
@[simp] theorem State.onArbiter_audio : (s.onArbiter f).audio = s.audio := rfl
@[simp] theorem State.onArbiter_memory : (s.onArbiter f).memory = s.memory := rfl
@[simp] theorem State.onArbiter_pending : (s.onArbiter f).pending = s.pending := rfl

end

/-! ### State.onPoller -/

section
variable (f : Poller → Poller) (s : State)

@[simp] theorem State.onPoller_port : (s.onPoller f).port = s.port := rfl
@[simp] theorem State.onPoller_notice : (s.onPoller f).notice = s.notice := rfl
@[simp] theorem State.onPoller_arbiter : (s.onPoller f).arbiter = s.arbiter := rfl
@[simp] theorem State.onPoller_poller : (s.onPoller f).poller = f s.poller := rfl
@[simp] theorem State.onPoller_composers : (s.onPoller f).composers = s.composers := rfl
@[simp] theorem State.onPoller_pairStarting : (s.onPoller f).pairStarting = s.pairStarting := rfl
@[simp] theorem State.onPoller_twin : (s.onPoller f).twin = s.twin := rfl
@[simp] theorem State.onPoller_frontView : (s.onPoller f).frontView = s.frontView := rfl
@[simp] theorem State.onPoller_film : (s.onPoller f).film = s.film := rfl
@[simp] theorem State.onPoller_capture : (s.onPoller f).capture = s.capture := rfl
@[simp] theorem State.onPoller_guide : (s.onPoller f).guide = s.guide := rfl
@[simp] theorem State.onPoller_mixer : (s.onPoller f).mixer = s.mixer := rfl
@[simp] theorem State.onPoller_chime : (s.onPoller f).chime = s.chime := rfl
@[simp] theorem State.onPoller_reverse : (s.onPoller f).reverse = s.reverse := rfl
@[simp] theorem State.onPoller_audio : (s.onPoller f).audio = s.audio := rfl
@[simp] theorem State.onPoller_memory : (s.onPoller f).memory = s.memory := rfl
@[simp] theorem State.onPoller_pending : (s.onPoller f).pending = s.pending := rfl

end

/-! ### State.onCapture -/

section
variable (f : Capture → Capture) (s : State)

@[simp] theorem State.onCapture_port : (s.onCapture f).port = s.port := rfl
@[simp] theorem State.onCapture_notice : (s.onCapture f).notice = s.notice := rfl
@[simp] theorem State.onCapture_arbiter : (s.onCapture f).arbiter = s.arbiter := rfl
@[simp] theorem State.onCapture_poller : (s.onCapture f).poller = s.poller := rfl
@[simp] theorem State.onCapture_composers : (s.onCapture f).composers = s.composers := rfl
@[simp] theorem State.onCapture_pairStarting : (s.onCapture f).pairStarting = s.pairStarting := rfl
@[simp] theorem State.onCapture_twin : (s.onCapture f).twin = s.twin := rfl
@[simp] theorem State.onCapture_frontView : (s.onCapture f).frontView = s.frontView := rfl
@[simp] theorem State.onCapture_film : (s.onCapture f).film = s.film := rfl
@[simp] theorem State.onCapture_capture : (s.onCapture f).capture = f s.capture := rfl
@[simp] theorem State.onCapture_guide : (s.onCapture f).guide = s.guide := rfl
@[simp] theorem State.onCapture_mixer : (s.onCapture f).mixer = s.mixer := rfl
@[simp] theorem State.onCapture_chime : (s.onCapture f).chime = s.chime := rfl
@[simp] theorem State.onCapture_reverse : (s.onCapture f).reverse = s.reverse := rfl
@[simp] theorem State.onCapture_audio : (s.onCapture f).audio = s.audio := rfl
@[simp] theorem State.onCapture_memory : (s.onCapture f).memory = s.memory := rfl
@[simp] theorem State.onCapture_pending : (s.onCapture f).pending = s.pending := rfl

end

/-! ### State.onGuide -/

section
variable (f : Guide → Guide) (s : State)

@[simp] theorem State.onGuide_port : (s.onGuide f).port = s.port := rfl
@[simp] theorem State.onGuide_notice : (s.onGuide f).notice = s.notice := rfl
@[simp] theorem State.onGuide_arbiter : (s.onGuide f).arbiter = s.arbiter := rfl
@[simp] theorem State.onGuide_poller : (s.onGuide f).poller = s.poller := rfl
@[simp] theorem State.onGuide_composers : (s.onGuide f).composers = s.composers := rfl
@[simp] theorem State.onGuide_pairStarting : (s.onGuide f).pairStarting = s.pairStarting := rfl
@[simp] theorem State.onGuide_twin : (s.onGuide f).twin = s.twin := rfl
@[simp] theorem State.onGuide_frontView : (s.onGuide f).frontView = s.frontView := rfl
@[simp] theorem State.onGuide_film : (s.onGuide f).film = s.film := rfl
@[simp] theorem State.onGuide_capture : (s.onGuide f).capture = s.capture := rfl
@[simp] theorem State.onGuide_guide : (s.onGuide f).guide = f s.guide := rfl
@[simp] theorem State.onGuide_mixer : (s.onGuide f).mixer = s.mixer := rfl
@[simp] theorem State.onGuide_chime : (s.onGuide f).chime = s.chime := rfl
@[simp] theorem State.onGuide_reverse : (s.onGuide f).reverse = s.reverse := rfl
@[simp] theorem State.onGuide_audio : (s.onGuide f).audio = s.audio := rfl
@[simp] theorem State.onGuide_memory : (s.onGuide f).memory = s.memory := rfl
@[simp] theorem State.onGuide_pending : (s.onGuide f).pending = s.pending := rfl

end

/-! ### State.onMixer -/

section
variable (f : Mixer → Mixer) (s : State)

@[simp] theorem State.onMixer_port : (s.onMixer f).port = s.port := rfl
@[simp] theorem State.onMixer_notice : (s.onMixer f).notice = s.notice := rfl
@[simp] theorem State.onMixer_arbiter : (s.onMixer f).arbiter = s.arbiter := rfl
@[simp] theorem State.onMixer_poller : (s.onMixer f).poller = s.poller := rfl
@[simp] theorem State.onMixer_composers : (s.onMixer f).composers = s.composers := rfl
@[simp] theorem State.onMixer_pairStarting : (s.onMixer f).pairStarting = s.pairStarting := rfl
@[simp] theorem State.onMixer_twin : (s.onMixer f).twin = s.twin := rfl
@[simp] theorem State.onMixer_frontView : (s.onMixer f).frontView = s.frontView := rfl
@[simp] theorem State.onMixer_film : (s.onMixer f).film = s.film := rfl
@[simp] theorem State.onMixer_capture : (s.onMixer f).capture = s.capture := rfl
@[simp] theorem State.onMixer_guide : (s.onMixer f).guide = s.guide := rfl
@[simp] theorem State.onMixer_mixer : (s.onMixer f).mixer = f s.mixer := rfl
@[simp] theorem State.onMixer_chime : (s.onMixer f).chime = s.chime := rfl
@[simp] theorem State.onMixer_reverse : (s.onMixer f).reverse = s.reverse := rfl
@[simp] theorem State.onMixer_audio : (s.onMixer f).audio = s.audio := rfl
@[simp] theorem State.onMixer_memory : (s.onMixer f).memory = s.memory := rfl
@[simp] theorem State.onMixer_pending : (s.onMixer f).pending = s.pending := rfl

end

/-! ### State.onChime -/

section
variable (f : ChimeEngine → ChimeEngine) (s : State)

@[simp] theorem State.onChime_port : (s.onChime f).port = s.port := rfl
@[simp] theorem State.onChime_notice : (s.onChime f).notice = s.notice := rfl
@[simp] theorem State.onChime_arbiter : (s.onChime f).arbiter = s.arbiter := rfl
@[simp] theorem State.onChime_poller : (s.onChime f).poller = s.poller := rfl
@[simp] theorem State.onChime_composers : (s.onChime f).composers = s.composers := rfl
@[simp] theorem State.onChime_pairStarting : (s.onChime f).pairStarting = s.pairStarting := rfl
@[simp] theorem State.onChime_twin : (s.onChime f).twin = s.twin := rfl
@[simp] theorem State.onChime_frontView : (s.onChime f).frontView = s.frontView := rfl
@[simp] theorem State.onChime_film : (s.onChime f).film = s.film := rfl
@[simp] theorem State.onChime_capture : (s.onChime f).capture = s.capture := rfl
@[simp] theorem State.onChime_guide : (s.onChime f).guide = s.guide := rfl
@[simp] theorem State.onChime_mixer : (s.onChime f).mixer = s.mixer := rfl
@[simp] theorem State.onChime_chime : (s.onChime f).chime = f s.chime := rfl
@[simp] theorem State.onChime_reverse : (s.onChime f).reverse = s.reverse := rfl
@[simp] theorem State.onChime_audio : (s.onChime f).audio = s.audio := rfl
@[simp] theorem State.onChime_memory : (s.onChime f).memory = s.memory := rfl
@[simp] theorem State.onChime_pending : (s.onChime f).pending = s.pending := rfl

end

/-! ### State.onReverse -/

section
variable (f : Reverse → Reverse) (s : State)

@[simp] theorem State.onReverse_port : (s.onReverse f).port = s.port := rfl
@[simp] theorem State.onReverse_notice : (s.onReverse f).notice = s.notice := rfl
@[simp] theorem State.onReverse_arbiter : (s.onReverse f).arbiter = s.arbiter := rfl
@[simp] theorem State.onReverse_poller : (s.onReverse f).poller = s.poller := rfl
@[simp] theorem State.onReverse_composers : (s.onReverse f).composers = s.composers := rfl
@[simp] theorem State.onReverse_pairStarting : (s.onReverse f).pairStarting = s.pairStarting := rfl
@[simp] theorem State.onReverse_twin : (s.onReverse f).twin = s.twin := rfl
@[simp] theorem State.onReverse_frontView : (s.onReverse f).frontView = s.frontView := rfl
@[simp] theorem State.onReverse_film : (s.onReverse f).film = s.film := rfl
@[simp] theorem State.onReverse_capture : (s.onReverse f).capture = s.capture := rfl
@[simp] theorem State.onReverse_guide : (s.onReverse f).guide = s.guide := rfl
@[simp] theorem State.onReverse_mixer : (s.onReverse f).mixer = s.mixer := rfl
@[simp] theorem State.onReverse_chime : (s.onReverse f).chime = s.chime := rfl
@[simp] theorem State.onReverse_reverse : (s.onReverse f).reverse = f s.reverse := rfl
@[simp] theorem State.onReverse_audio : (s.onReverse f).audio = s.audio := rfl
@[simp] theorem State.onReverse_memory : (s.onReverse f).memory = s.memory := rfl
@[simp] theorem State.onReverse_pending : (s.onReverse f).pending = s.pending := rfl

end

/-! ### PerDisplay -/

@[simp] theorem PerDisplay.get_update_same {α : Type} (p : PerDisplay α) (d : Display) (f : α → α) :
    (p.update d f).get d = f (p.get d) := by
  cases d <;> rfl

theorem PerDisplay.get_update_other {α : Type} (p : PerDisplay α) (d w : Display) (f : α → α) (h : w ≠ d) :
    (p.update d f).get w = p.get w := by
  cases d <;> cases w <;> first | rfl | exact absurd rfl h

/-! ### PerStream -/

@[simp] theorem PerStream.get_update_same {α : Type} (p : PerStream α) (st : Stream) (f : α → α) :
    (p.update st f).get st = f (p.get st) := by
  cases st <;> rfl

theorem PerStream.get_update_other {α : Type} (p : PerStream α) (st w : Stream) (f : α → α) (h : w ≠ st) :
    (p.update st f).get w = p.get w := by
  cases st <;> cases w <;> first | rfl | exact absurd rfl h

/-! ### PerZone -/

@[simp] theorem PerZone.get_update_same {α : Type} (p : PerZone α) (z : Zone) (f : α → α) :
    (p.update z f).get z = f (p.get z) := by
  cases z <;> rfl

theorem PerZone.get_update_other {α : Type} (p : PerZone α) (z w : Zone) (f : α → α) (h : w ≠ z) :
    (p.update z f).get w = p.get w := by
  cases z <;> cases w <;> first | rfl | exact absurd rfl h

/-! ### PerClient -/

@[simp] theorem PerClient.get_update_same {α : Type} (p : PerClient α) (c : Client) (f : α → α) :
    (p.update c f).get c = f (p.get c) := by
  cases c <;> rfl

theorem PerClient.get_update_other {α : Type} (p : PerClient α) (c w : Client) (f : α → α) (h : w ≠ c) :
    (p.update c f).get w = p.get w := by
  cases c <;> cases w <;> first | rfl | exact absurd rfl h

end Sys2Proof.Machine
end

