-- ==== Sys2Proof/Laws/Kept.lean ====
section
/-! SUPPORT. What each operation keeps: the bytes in host memory, the queue of commands, the registers of the link
port and the kept camera record, for every operation that has no business with them. -/

namespace Sys2Proof.Machine

/-- A fold keeps what each of its steps keeps. -/
theorem foldl_keeps {α β γ : Type} (g : β → γ) (f : β → α → β) (h : ∀ b a, g (f b a) = g b) (l : List α) (b : β) :
    g (l.foldl f b) = g b := by
  induction l generalizing b with
  | nil => rfl
  | cons a l ih => rw [List.foldl_cons, ih, h]

@[simp] theorem foldl_memory {α : Type} (f : State → α → State) (h : ∀ s a, (f s a).memory = s.memory) (l : List α)
    (s : State) : (l.foldl f s).memory = s.memory := foldl_keeps State.memory f h l s

@[simp] theorem foldl_pending {α : Type} (f : State → α → State) (h : ∀ s a, (f s a).pending = s.pending)
    (l : List α) (s : State) : (l.foldl f s).pending = s.pending := foldl_keeps State.pending f h l s

@[simp] theorem foldl_port {α : Type} (f : State → α → State) (h : ∀ s a, (f s a).port = s.port) (l : List α)
    (s : State) : (l.foldl f s).port = s.port := foldl_keeps State.port f h l s

@[simp] theorem foldl_record {α : Type} (f : State → α → State) (h : ∀ s a, (f s a).capture.record = s.capture.record)
    (l : List α) (s : State) : (l.foldl f s).capture.record = s.capture.record :=
  foldl_keeps (fun s : State => s.capture.record) f h l s

/-- Parts of the capture unit that keep its record. -/
@[simp] theorem onFrame_record (c : Capture) (id : Nat) (f : KeptFrame → KeptFrame) :
    (c.onFrame id f).record = c.record := rfl

@[simp] theorem switchOff_record (c : Capture) : c.switchOff.record = c.record := rfl

@[simp] theorem dropStores_record (c : Capture) : c.dropStores.record = c.record := rfl

/-! ## Machine/Ops.lean -/

@[simp] theorem makeRead_memory (what : ReadOf) (addr : Addr) (length : Nat) (s : State) :
    (makeRead what addr length s).memory = s.memory := rfl

@[simp] theorem makeRead_pending (what : ReadOf) (addr : Addr) (length : Nat) (s : State) :
    (makeRead what addr length s).pending = s.pending := rfl

@[simp] theorem makeRead_port (what : ReadOf) (addr : Addr) (length : Nat) (s : State) :
    (makeRead what addr length s).port = s.port := rfl

@[simp] theorem makeRead_record (what : ReadOf) (addr : Addr) (length : Nat) (s : State) :
    (makeRead what addr length s).capture.record = s.capture.record := by
  unfold makeRead
  (try dsimp only)
  (repeat' split) <;> simp

@[simp] theorem makeStatusWrite_memory (offset : Nat) (bytes : List Byte) (s : State) :
    (makeStatusWrite offset bytes s).memory = s.memory := rfl

@[simp] theorem makeStatusWrite_pending (offset : Nat) (bytes : List Byte) (s : State) :
    (makeStatusWrite offset bytes s).pending = s.pending := rfl

@[simp] theorem makeStatusWrite_port (offset : Nat) (bytes : List Byte) (s : State) :
    (makeStatusWrite offset bytes s).port = s.port := rfl

@[simp] theorem makeStatusWrite_record (offset : Nat) (bytes : List Byte) (s : State) :
    (makeStatusWrite offset bytes s).capture.record = s.capture.record := by
  unfold makeStatusWrite
  (try dsimp only)
  (repeat' split) <;> simp

@[simp] theorem makeCountWrite_memory (lower data : List Nat) (offset : Nat) (bytes : List Byte) (s : State) :
    (makeCountWrite lower data offset bytes s).memory = s.memory := by
  unfold makeCountWrite
  (try dsimp only)
  (repeat' split) <;> simp

@[simp] theorem makeCountWrite_pending (lower data : List Nat) (offset : Nat) (bytes : List Byte) (s : State) :
    (makeCountWrite lower data offset bytes s).pending = s.pending := by
  unfold makeCountWrite
  (try dsimp only)
  (repeat' split) <;> simp

@[simp] theorem makeCountWrite_port (lower data : List Nat) (offset : Nat) (bytes : List Byte) (s : State) :
    (makeCountWrite lower data offset bytes s).port = s.port := by
  unfold makeCountWrite
  (try dsimp only)
  (repeat' split) <;> simp

@[simp] theorem makeCountWrite_record (lower data : List Nat) (offset : Nat) (bytes : List Byte) (s : State) :
    (makeCountWrite lower data offset bytes s).capture.record = s.capture.record := by
  unfold makeCountWrite
  (try dsimp only)
  (repeat' split) <;> simp

@[simp] theorem noteWritten_memory (offsets : List Nat) (s : State) :
    (noteWritten offsets s).memory = s.memory := by
  unfold noteWritten
  (try dsimp only)
  (repeat' split) <;> simp

@[simp] theorem noteWritten_pending (offsets : List Nat) (s : State) :
    (noteWritten offsets s).pending = s.pending := by
  unfold noteWritten
  (try dsimp only)
  (repeat' split) <;> simp

@[simp] theorem noteWritten_port (offsets : List Nat) (s : State) :
    (noteWritten offsets s).port = s.port := by
  unfold noteWritten
  (try dsimp only)
  (repeat' split) <;> simp

@[simp] theorem noteWritten_record (offsets : List Nat) (s : State) :
    (noteWritten offsets s).capture.record = s.capture.record := by
  unfold noteWritten
  (try dsimp only)
  (repeat' split) <;> simp

@[simp] theorem pollRead_memory (what : ReadOf) (offset length : Nat) (s : State) :
    (pollRead what offset length s).memory = s.memory := by
  unfold pollRead
  (try dsimp only)
  (repeat' split) <;> simp

@[simp] theorem pollRead_pending (what : ReadOf) (offset length : Nat) (s : State) :
    (pollRead what offset length s).pending = s.pending := by
  unfold pollRead
  (try dsimp only)
  (repeat' split) <;> simp

@[simp] theorem pollRead_port (what : ReadOf) (offset length : Nat) (s : State) :
    (pollRead what offset length s).port = s.port := by
  unfold pollRead
  (try dsimp only)
  (repeat' split) <;> simp

@[simp] theorem pollRead_record (what : ReadOf) (offset length : Nat) (s : State) :
    (pollRead what offset length s).capture.record = s.capture.record := by
  unfold pollRead
  (try dsimp only)
  (repeat' split) <;> simp

@[simp] theorem State.onSlot_memory (n : Nat) (f : AskSlot → AskSlot) (s : State) :
    (State.onSlot n f s).memory = s.memory := rfl

@[simp] theorem State.onSlot_pending (n : Nat) (f : AskSlot → AskSlot) (s : State) :
    (State.onSlot n f s).pending = s.pending := rfl

@[simp] theorem State.onSlot_port (n : Nat) (f : AskSlot → AskSlot) (s : State) :
    (State.onSlot n f s).port = s.port := rfl

@[simp] theorem State.onSlot_record (n : Nat) (f : AskSlot → AskSlot) (s : State) :
    (State.onSlot n f s).capture.record = s.capture.record := by
  unfold State.onSlot
  (try dsimp only)
  (repeat' split) <;> simp

@[simp] theorem refreshLeave_memory (s : State) :
    (refreshLeave s).memory = s.memory := by
  rfl

@[simp] theorem refreshLeave_pending (s : State) :
    (refreshLeave s).pending = s.pending := by
  rfl

@[simp] theorem refreshLeave_port (s : State) :
    (refreshLeave s).port = s.port := by
  rfl

@[simp] theorem refreshLeave_record (s : State) :
    (refreshLeave s).capture.record = s.capture.record := rfl

/-! ## Machine/Flags.lean -/

@[simp] theorem setFlag_memory (f : Flag) (s : State) :
    (setFlag f s).memory = s.memory := by
  unfold setFlag
  (try dsimp only)
  (repeat' split) <;> simp

@[simp] theorem setFlag_pending (f : Flag) (s : State) :
    (setFlag f s).pending = s.pending := by
  unfold setFlag
  (try dsimp only)
  (repeat' split) <;> simp

@[simp] theorem setFlag_port (f : Flag) (s : State) :
    (setFlag f s).port = s.port := by
  unfold setFlag
  (try dsimp only)
  (repeat' split) <;> simp

@[simp] theorem setFlag_record (f : Flag) (s : State) :
    (setFlag f s).capture.record = s.capture.record := by
  unfold setFlag
  (try dsimp only)
  (repeat' split) <;> simp

@[simp] theorem areaFault_memory (kind : AreaFaultKind) (place : Word) (s : State) :
    (areaFault kind place s).memory = s.memory := by
  unfold areaFault
  (try dsimp only)
  (repeat' split) <;> simp

@[simp] theorem areaFault_pending (kind : AreaFaultKind) (place : Word) (s : State) :
    (areaFault kind place s).pending = s.pending := by
  unfold areaFault
  (try dsimp only)
  (repeat' split) <;> simp

@[simp] theorem areaFault_port (kind : AreaFaultKind) (place : Word) (s : State) :
    (areaFault kind place s).port = s.port := by
  unfold areaFault
  (try dsimp only)
  (repeat' split) <;> simp

@[simp] theorem areaFault_record (kind : AreaFaultKind) (place : Word) (s : State) :
    (areaFault kind place s).capture.record = s.capture.record := by
  unfold areaFault
  (try dsimp only)
  (repeat' split) <;> simp

@[simp] theorem writeResult_memory (n : Nat) (r : AskResult) (s : State) :
    (writeResult n r s).memory = s.memory := by
  unfold writeResult
  dsimp only
  (repeat' split) <;> first | rfl | simp

@[simp] theorem writeResult_pending (n : Nat) (r : AskResult) (s : State) :
    (writeResult n r s).pending = s.pending := by
  unfold writeResult
  dsimp only
  (repeat' split) <;> first | rfl | simp

@[simp] theorem writeResult_port (n : Nat) (r : AskResult) (s : State) :
    (writeResult n r s).port = s.port := by
  unfold writeResult
  dsimp only
  (repeat' split) <;> first | rfl | simp

@[simp] theorem writeResult_record (n : Nat) (r : AskResult) (s : State) :
    (writeResult n r s).capture.record = s.capture.record := by
  unfold writeResult
  (try dsimp only)
  (repeat' split) <;> simp

@[simp] theorem takeAsk_memory (n : Nat) (sequence : Word) (r : AskResult) (s : State) :
    (takeAsk n sequence r s).memory = s.memory := by
  simp [takeAsk]

@[simp] theorem takeAsk_pending (n : Nat) (sequence : Word) (r : AskResult) (s : State) :
    (takeAsk n sequence r s).pending = s.pending := by
  simp [takeAsk]

@[simp] theorem takeAsk_port (n : Nat) (sequence : Word) (r : AskResult) (s : State) :
    (takeAsk n sequence r s).port = s.port := by
  simp [takeAsk]

@[simp] theorem takeAsk_record (n : Nat) (sequence : Word) (r : AskResult) (s : State) :
    (takeAsk n sequence r s).capture.record = s.capture.record := by
  unfold takeAsk
  (try dsimp only)
  (repeat' split) <;> simp

/-! ## Machine/Mixer.lean -/

@[simp] theorem retarget_memory (r : Route) (s : State) :
    (retarget r s).memory = s.memory := by
  unfold retarget
  (try dsimp only)
  (repeat' split) <;> simp

@[simp] theorem retarget_pending (r : Route) (s : State) :
    (retarget r s).pending = s.pending := by
  unfold retarget
  (try dsimp only)
  (repeat' split) <;> simp

@[simp] theorem retarget_port (r : Route) (s : State) :
    (retarget r s).port = s.port := by
  unfold retarget
  (try dsimp only)
  (repeat' split) <;> simp

@[simp] theorem retarget_record (r : Route) (s : State) :
    (retarget r s).capture.record = s.capture.record := by
  unfold retarget
  (try dsimp only)
  (repeat' split) <;> simp

@[simp] theorem retargetAll_memory (s : State) :
    (retargetAll s).memory = s.memory := by
  unfold retargetAll
  (try dsimp only)
  (repeat' split) <;> simp

@[simp] theorem retargetAll_pending (s : State) :
    (retargetAll s).pending = s.pending := by
  unfold retargetAll
  (try dsimp only)
  (repeat' split) <;> simp

@[simp] theorem retargetAll_port (s : State) :
    (retargetAll s).port = s.port := by
  unfold retargetAll
  (try dsimp only)
  (repeat' split) <;> simp

@[simp] theorem retargetAll_record (s : State) :
    (retargetAll s).capture.record = s.capture.record := by
  unfold retargetAll
  (try dsimp only)
  (repeat' split) <;> simp

@[simp] theorem applyHostChange_memory (r : Route) (s : State) :
    (applyHostChange r s).memory = s.memory := by
  unfold applyHostChange
  (try dsimp only)
  (repeat' split) <;> simp

@[simp] theorem applyHostChange_pending (r : Route) (s : State) :
    (applyHostChange r s).pending = s.pending := by
  unfold applyHostChange
  (try dsimp only)
  (repeat' split) <;> simp

@[simp] theorem applyHostChange_port (r : Route) (s : State) :
    (applyHostChange r s).port = s.port := by
  unfold applyHostChange
  (try dsimp only)
  (repeat' split) <;> simp

@[simp] theorem applyHostChange_record (r : Route) (s : State) :
    (applyHostChange r s).capture.record = s.capture.record := by
  unfold applyHostChange
  (try dsimp only)
  (repeat' split) <;> simp

@[simp] theorem takeRouting_memory (new : Routing) (s : State) :
    (takeRouting new s).memory = s.memory := by
  unfold takeRouting
  dsimp only
  refine (foldl_keeps State.memory _ ?_ _ _).trans ?_ <;> intros <;> rfl

@[simp] theorem takeRouting_pending (new : Routing) (s : State) :
    (takeRouting new s).pending = s.pending := by
  unfold takeRouting
  dsimp only
  refine (foldl_keeps State.pending _ ?_ _ _).trans ?_ <;> intros <;> rfl

@[simp] theorem takeRouting_port (new : Routing) (s : State) :
    (takeRouting new s).port = s.port := by
  unfold takeRouting
  dsimp only
  refine (foldl_keeps State.port _ ?_ _ _).trans ?_ <;> intros <;> rfl

@[simp] theorem takeRouting_record (new : Routing) (s : State) :
    (takeRouting new s).capture.record = s.capture.record := by
  unfold takeRouting
  dsimp only
  refine (foldl_keeps (fun s : State => s.capture.record) _ ?_ _ _).trans ?_ <;> intros <;> rfl

@[simp] theorem refuseRouting_memory (new : Routing) (polled : Bool) (s : State) :
    (refuseRouting new polled s).memory = s.memory := by
  unfold refuseRouting
  (try dsimp only)
  (repeat' split) <;> simp

@[simp] theorem refuseRouting_pending (new : Routing) (polled : Bool) (s : State) :
    (refuseRouting new polled s).pending = s.pending := by
  unfold refuseRouting
  (try dsimp only)
  (repeat' split) <;> simp

@[simp] theorem refuseRouting_port (new : Routing) (polled : Bool) (s : State) :
    (refuseRouting new polled s).port = s.port := by
  unfold refuseRouting
  (try dsimp only)
  (repeat' split) <;> simp

@[simp] theorem refuseRouting_record (new : Routing) (polled : Bool) (s : State) :
    (refuseRouting new polled s).capture.record = s.capture.record := by
  unfold refuseRouting
  (try dsimp only)
  (repeat' split) <;> simp

@[simp] theorem handleRouting_memory (new : Routing) (polled : Bool) (s : State) :
    (handleRouting new polled s).memory = s.memory := by
  unfold handleRouting
  (try dsimp only)
  (repeat' split) <;> simp

@[simp] theorem handleRouting_pending (new : Routing) (polled : Bool) (s : State) :
    (handleRouting new polled s).pending = s.pending := by
  unfold handleRouting
  (try dsimp only)
  (repeat' split) <;> simp

@[simp] theorem handleRouting_port (new : Routing) (polled : Bool) (s : State) :
    (handleRouting new polled s).port = s.port := by
  unfold handleRouting
  (try dsimp only)
  (repeat' split) <;> simp

@[simp] theorem handleRouting_record (new : Routing) (polled : Bool) (s : State) :
    (handleRouting new polled s).capture.record = s.capture.record := by
  unfold handleRouting
  (try dsimp only)
  (repeat' split) <;> simp

@[simp] theorem applyInputs_memory (s : State) :
    (applyInputs s).memory = s.memory := by
  unfold applyInputs
  (try dsimp only)
  (repeat' split) <;> simp

@[simp] theorem applyInputs_pending (s : State) :
    (applyInputs s).pending = s.pending := by
  unfold applyInputs
  (try dsimp only)
  (repeat' split) <;> simp

@[simp] theorem applyInputs_port (s : State) :
    (applyInputs s).port = s.port := by
  unfold applyInputs
  (try dsimp only)
  (repeat' split) <;> simp

@[simp] theorem applyInputs_record (s : State) :
    (applyInputs s).capture.record = s.capture.record := by
  unfold applyInputs
  (try dsimp only)
  (repeat' split) <;> simp

@[simp] theorem quietMixer_memory (s : State) :
    (quietMixer s).memory = s.memory := by
  unfold quietMixer
  (try dsimp only)
  (repeat' split) <;> simp

@[simp] theorem quietMixer_pending (s : State) :
    (quietMixer s).pending = s.pending := by
  unfold quietMixer
  (try dsimp only)
  (repeat' split) <;> simp

@[simp] theorem quietMixer_port (s : State) :
    (quietMixer s).port = s.port := by
  unfold quietMixer
  (try dsimp only)
  (repeat' split) <;> simp

@[simp] theorem quietMixer_record (s : State) :
    (quietMixer s).capture.record = s.capture.record := by
  unfold quietMixer
  (try dsimp only)
  (repeat' split) <;> simp

@[simp] theorem wakeMixer_memory (s : State) :
    (wakeMixer s).memory = s.memory := by
  unfold wakeMixer
  (try dsimp only)
  (repeat' split) <;> simp

@[simp] theorem wakeMixer_pending (s : State) :
    (wakeMixer s).pending = s.pending := by
  unfold wakeMixer
  (try dsimp only)
  (repeat' split) <;> simp

@[simp] theorem wakeMixer_port (s : State) :
    (wakeMixer s).port = s.port := by
  unfold wakeMixer
  (try dsimp only)
  (repeat' split) <;> simp

@[simp] theorem wakeMixer_record (s : State) :
    (wakeMixer s).capture.record = s.capture.record := by
  unfold wakeMixer
  (try dsimp only)
  (repeat' split) <;> simp

@[simp] theorem detachMixer_memory (s : State) :
    (detachMixer s).memory = s.memory := by
  unfold detachMixer
  dsimp only
  rw [retargetAll_memory]
  refine (foldl_keeps State.memory _ ?_ _ _).trans ?_ <;> intros <;> rfl

@[simp] theorem detachMixer_pending (s : State) :
    (detachMixer s).pending = s.pending := by
  unfold detachMixer
  dsimp only
  rw [retargetAll_pending]
  refine (foldl_keeps State.pending _ ?_ _ _).trans ?_ <;> intros <;> rfl

@[simp] theorem detachMixer_port (s : State) :
    (detachMixer s).port = s.port := by
  unfold detachMixer
  dsimp only
  rw [retargetAll_port]
  refine (foldl_keeps State.port _ ?_ _ _).trans ?_ <;> intros <;> rfl

@[simp] theorem detachMixer_record (s : State) :
    (detachMixer s).capture.record = s.capture.record := by
  unfold detachMixer
  dsimp only
  rw [retargetAll_record]
  refine (foldl_keeps (fun s : State => s.capture.record) _ ?_ _ _).trans ?_ <;> intros <;> rfl

@[simp] theorem waitSample_memory (crossing : Bool) (r : Route) (s : State) :
    (waitSample crossing r s).memory = s.memory := by
  unfold waitSample
  (try dsimp only)
  (repeat' split) <;> simp

@[simp] theorem waitSample_pending (crossing : Bool) (r : Route) (s : State) :
    (waitSample crossing r s).pending = s.pending := by
  unfold waitSample
  (try dsimp only)
  (repeat' split) <;> simp

@[simp] theorem waitSample_port (crossing : Bool) (r : Route) (s : State) :
    (waitSample crossing r s).port = s.port := by
  unfold waitSample
  (try dsimp only)
  (repeat' split) <;> simp

@[simp] theorem waitSample_record (crossing : Bool) (r : Route) (s : State) :
    (waitSample crossing r s).capture.record = s.capture.record := by
  unfold waitSample
  (try dsimp only)
  (repeat' split) <;> simp

@[simp] theorem saturate_memory (z : Zone) (s : State) :
    (saturate z s).memory = s.memory := by
  unfold saturate
  (try dsimp only)
  (repeat' split) <;> simp

@[simp] theorem saturate_pending (z : Zone) (s : State) :
    (saturate z s).pending = s.pending := by
  unfold saturate
  (try dsimp only)
  (repeat' split) <;> simp

@[simp] theorem saturate_port (z : Zone) (s : State) :
    (saturate z s).port = s.port := by
  unfold saturate
  (try dsimp only)
  (repeat' split) <;> simp

@[simp] theorem saturate_record (z : Zone) (s : State) :
    (saturate z s).capture.record = s.capture.record := by
  unfold saturate
  (try dsimp only)
  (repeat' split) <;> simp

@[simp] theorem outputZone_memory (v : Stereo) (z : Zone) (s : State) :
    (outputZone v z s).memory = s.memory := by
  unfold outputZone
  (try dsimp only)
  (repeat' split) <;> simp

@[simp] theorem outputZone_pending (v : Stereo) (z : Zone) (s : State) :
    (outputZone v z s).pending = s.pending := by
  unfold outputZone
  (try dsimp only)
  (repeat' split) <;> simp

@[simp] theorem outputZone_port (v : Stereo) (z : Zone) (s : State) :
    (outputZone v z s).port = s.port := by
  unfold outputZone
  (try dsimp only)
  (repeat' split) <;> simp

@[simp] theorem outputZone_record (v : Stereo) (z : Zone) (s : State) :
    (outputZone v z s).capture.record = s.capture.record := by
  unfold outputZone
  (try dsimp only)
  (repeat' split) <;> simp

@[simp] theorem mixSample_memory (samples : PerStream Stereo) (cs : List Contribution) (s : State) :
    (mixSample samples cs s).memory = s.memory := by
  unfold mixSample
  dsimp only
  rw [State.onMixer_memory, outputZone_memory, outputZone_memory, outputZone_memory]
  refine (foldl_keeps State.memory _ ?_ _ _).trans ((foldl_keeps State.memory _ ?_ _ _).trans rfl) <;> intros
  · rfl
  · exact waitSample_memory _ _ _

@[simp] theorem mixSample_pending (samples : PerStream Stereo) (cs : List Contribution) (s : State) :
    (mixSample samples cs s).pending = s.pending := by
  unfold mixSample
  dsimp only
  rw [State.onMixer_pending, outputZone_pending, outputZone_pending, outputZone_pending]
  refine (foldl_keeps State.pending _ ?_ _ _).trans ((foldl_keeps State.pending _ ?_ _ _).trans rfl) <;> intros
  · rfl
  · exact waitSample_pending _ _ _

@[simp] theorem mixSample_port (samples : PerStream Stereo) (cs : List Contribution) (s : State) :
    (mixSample samples cs s).port = s.port := by
  unfold mixSample
  dsimp only
  rw [State.onMixer_port, outputZone_port, outputZone_port, outputZone_port]
  refine (foldl_keeps State.port _ ?_ _ _).trans ((foldl_keeps State.port _ ?_ _ _).trans rfl) <;> intros
  · rfl
  · exact waitSample_port _ _ _

@[simp] theorem mixSample_record (samples : PerStream Stereo) (cs : List Contribution) (s : State) :
    (mixSample samples cs s).capture.record = s.capture.record := by
  unfold mixSample
  dsimp only
  rw [State.onMixer_capture, outputZone_record, outputZone_record, outputZone_record]
  refine (foldl_keeps (fun s : State => s.capture.record) _ ?_ _ _).trans
    ((foldl_keeps (fun s : State => s.capture.record) _ ?_ _ _).trans rfl) <;> intros
  · rfl
  · exact waitSample_record _ _ _

@[simp] theorem reportMixer_memory (s : State) :
    (reportMixer s).memory = s.memory := by
  unfold reportMixer
  (try dsimp only)
  (repeat' split) <;> simp

@[simp] theorem reportMixer_pending (s : State) :
    (reportMixer s).pending = s.pending := by
  unfold reportMixer
  (try dsimp only)
  (repeat' split) <;> simp

@[simp] theorem reportMixer_port (s : State) :
    (reportMixer s).port = s.port := by
  unfold reportMixer
  (try dsimp only)
  (repeat' split) <;> simp

@[simp] theorem reportMixer_record (s : State) :
    (reportMixer s).capture.record = s.capture.record := by
  unfold reportMixer
  (try dsimp only)
  (repeat' split) <;> simp

/-! ## Machine/Chime.lean -/

@[simp] theorem writeCard_memory (n : Nat) (f : CardState → CardState) (s : State) :
    (writeCard n f s).memory = s.memory := by
  unfold writeCard
  (try dsimp only)
  (repeat' split) <;> simp

@[simp] theorem writeCard_pending (n : Nat) (f : CardState → CardState) (s : State) :
    (writeCard n f s).pending = s.pending := by
  unfold writeCard
  (try dsimp only)
  (repeat' split) <;> simp

@[simp] theorem writeCard_port (n : Nat) (f : CardState → CardState) (s : State) :
    (writeCard n f s).port = s.port := by
  unfold writeCard
  (try dsimp only)
  (repeat' split) <;> simp

@[simp] theorem writeCard_record (n : Nat) (f : CardState → CardState) (s : State) :
    (writeCard n f s).capture.record = s.capture.record := by
  unfold writeCard
  (try dsimp only)
  (repeat' split) <;> simp

@[simp] theorem endClip_memory (n : Nat) (s : State) : (endClip n s).memory = s.memory := rfl
@[simp] theorem endClip_pending (n : Nat) (s : State) : (endClip n s).pending = s.pending := rfl
@[simp] theorem endClip_port (n : Nat) (s : State) : (endClip n s).port = s.port := rfl
@[simp] theorem endClip_record (n : Nat) (s : State) : (endClip n s).capture.record = s.capture.record := rfl

@[simp] theorem setAnswer_memory (n : Nat) (a : ChimeAnswer) (s : State) :
    (setAnswer n a s).memory = s.memory := by
  unfold setAnswer
  (try dsimp only)
  (repeat' split) <;> simp

@[simp] theorem setAnswer_pending (n : Nat) (a : ChimeAnswer) (s : State) :
    (setAnswer n a s).pending = s.pending := by
  unfold setAnswer
  (try dsimp only)
  (repeat' split) <;> simp

@[simp] theorem setAnswer_port (n : Nat) (a : ChimeAnswer) (s : State) :
    (setAnswer n a s).port = s.port := by
  unfold setAnswer
  (try dsimp only)
  (repeat' split) <;> simp

@[simp] theorem setAnswer_record (n : Nat) (a : ChimeAnswer) (s : State) :
    (setAnswer n a s).capture.record = s.capture.record := by
  unfold setAnswer
  (try dsimp only)
  (repeat' split) <;> simp

@[simp] theorem answerSource_memory (src : ChimeSource) (a : ChimeAnswer) (s : State) :
    (answerSource src a s).memory = s.memory := by
  unfold answerSource
  (try dsimp only)
  (repeat' split) <;> simp

@[simp] theorem answerSource_pending (src : ChimeSource) (a : ChimeAnswer) (s : State) :
    (answerSource src a s).pending = s.pending := by
  unfold answerSource
  (try dsimp only)
  (repeat' split) <;> simp

@[simp] theorem answerSource_port (src : ChimeSource) (a : ChimeAnswer) (s : State) :
    (answerSource src a s).port = s.port := by
  unfold answerSource
  (try dsimp only)
  (repeat' split) <;> simp

@[simp] theorem answerSource_record (src : ChimeSource) (a : ChimeAnswer) (s : State) :
    (answerSource src a s).capture.record = s.capture.record := by
  unfold answerSource
  (try dsimp only)
  (repeat' split) <;> simp

@[simp] theorem handDuck_memory (s : State) :
    (handDuck s).memory = s.memory := by
  unfold handDuck
  (try dsimp only)
  (repeat' split) <;> simp

@[simp] theorem handDuck_pending (s : State) :
    (handDuck s).pending = s.pending := by
  unfold handDuck
  (try dsimp only)
  (repeat' split) <;> simp

@[simp] theorem handDuck_port (s : State) :
    (handDuck s).port = s.port := by
  unfold handDuck
  (try dsimp only)
  (repeat' split) <;> simp

@[simp] theorem handDuck_record (s : State) :
    (handDuck s).capture.record = s.capture.record := by
  unfold handDuck
  (try dsimp only)
  (repeat' split) <;> simp

@[simp] theorem suppressHead_memory (n : Nat) (s : State) : (suppressHead n s).memory = s.memory := by
  induction n generalizing s with
  | zero => rfl
  | succ n ih =>
    unfold suppressHead
    (repeat' split) <;> simp [ih]

@[simp] theorem suppressHead_pending (n : Nat) (s : State) : (suppressHead n s).pending = s.pending := by
  induction n generalizing s with
  | zero => rfl
  | succ n ih =>
    unfold suppressHead
    (repeat' split) <;> simp [ih]

@[simp] theorem suppressHead_port (n : Nat) (s : State) : (suppressHead n s).port = s.port := by
  induction n generalizing s with
  | zero => rfl
  | succ n ih =>
    unfold suppressHead
    (repeat' split) <;> simp [ih]

@[simp] theorem suppressHead_record (n : Nat) (s : State) : (suppressHead n s).capture.record = s.capture.record := by
  induction n generalizing s with
  | zero => rfl
  | succ n ih =>
    unfold suppressHead
    (repeat' split) <;> simp [ih]

@[simp] theorem suppress_memory (s : State) :
    (suppress s).memory = s.memory := by
  unfold suppress
  (try dsimp only)
  (repeat' split) <;> simp

@[simp] theorem suppress_pending (s : State) :
    (suppress s).pending = s.pending := by
  unfold suppress
  (try dsimp only)
  (repeat' split) <;> simp

@[simp] theorem suppress_port (s : State) :
    (suppress s).port = s.port := by
  unfold suppress
  (try dsimp only)
  (repeat' split) <;> simp

@[simp] theorem suppress_record (s : State) :
    (suppress s).capture.record = s.capture.record := by
  unfold suppress
  (try dsimp only)
  (repeat' split) <;> simp

@[simp] theorem enterChime_memory (c : Chime) (s : State) :
    (enterChime c s).memory = s.memory := by
  unfold enterChime
  (try dsimp only)
  (repeat' split) <;> simp

@[simp] theorem enterChime_pending (c : Chime) (s : State) :
    (enterChime c s).pending = s.pending := by
  unfold enterChime
  (try dsimp only)
  (repeat' split) <;> simp

@[simp] theorem enterChime_port (c : Chime) (s : State) :
    (enterChime c s).port = s.port := by
  unfold enterChime
  (try dsimp only)
  (repeat' split) <;> simp

@[simp] theorem enterChime_record (c : Chime) (s : State) :
    (enterChime c s).capture.record = s.capture.record := by
  unfold enterChime
  (try dsimp only)
  (repeat' split) <;> simp

@[simp] theorem dropWaiting_memory (src : ChimeSource) (keep : Option Nat) (s : State) :
    (dropWaiting src keep s).memory = s.memory := by
  unfold dropWaiting
  (try dsimp only)
  (repeat' split) <;> simp

@[simp] theorem dropWaiting_pending (src : ChimeSource) (keep : Option Nat) (s : State) :
    (dropWaiting src keep s).pending = s.pending := by
  unfold dropWaiting
  (try dsimp only)
  (repeat' split) <;> simp

@[simp] theorem dropWaiting_port (src : ChimeSource) (keep : Option Nat) (s : State) :
    (dropWaiting src keep s).port = s.port := by
  unfold dropWaiting
  (try dsimp only)
  (repeat' split) <;> simp

@[simp] theorem dropWaiting_record (src : ChimeSource) (keep : Option Nat) (s : State) :
    (dropWaiting src keep s).capture.record = s.capture.record := by
  unfold dropWaiting
  (try dsimp only)
  (repeat' split) <;> simp

@[simp] theorem disown_memory (n : Nat) (s : State) :
    (disown n s).memory = s.memory := by
  unfold disown
  (try dsimp only)
  (repeat' split) <;> simp

@[simp] theorem disown_pending (n : Nat) (s : State) :
    (disown n s).pending = s.pending := by
  unfold disown
  (try dsimp only)
  (repeat' split) <;> simp

@[simp] theorem disown_port (n : Nat) (s : State) :
    (disown n s).port = s.port := by
  unfold disown
  (try dsimp only)
  (repeat' split) <;> simp

@[simp] theorem disown_record (n : Nat) (s : State) :
    (disown n s).capture.record = s.capture.record := by
  unfold disown
  (try dsimp only)
  (repeat' split) <;> simp

@[simp] theorem startNext_memory (s : State) :
    (startNext s).memory = s.memory := by
  unfold startNext
  (try dsimp only)
  (repeat' split) <;> simp

@[simp] theorem startNext_pending (s : State) :
    (startNext s).pending = s.pending := by
  unfold startNext
  (try dsimp only)
  (repeat' split) <;> simp

@[simp] theorem startNext_port (s : State) :
    (startNext s).port = s.port := by
  unfold startNext
  (try dsimp only)
  (repeat' split) <;> simp

@[simp] theorem startNext_record (s : State) :
    (startNext s).capture.record = s.capture.record := by
  unfold startNext
  (try dsimp only)
  (repeat' split) <;> simp

@[simp] theorem returnChime_memory (c : Chime) (s : State) :
    (returnChime c s).memory = s.memory := by
  unfold returnChime
  (try dsimp only)
  (repeat' split) <;> simp

@[simp] theorem returnChime_pending (c : Chime) (s : State) :
    (returnChime c s).pending = s.pending := by
  unfold returnChime
  (try dsimp only)
  (repeat' split) <;> simp

@[simp] theorem returnChime_port (c : Chime) (s : State) :
    (returnChime c s).port = s.port := by
  unfold returnChime
  (try dsimp only)
  (repeat' split) <;> simp

@[simp] theorem returnChime_record (c : Chime) (s : State) :
    (returnChime c s).capture.record = s.capture.record := by
  unfold returnChime
  (try dsimp only)
  (repeat' split) <;> simp

@[simp] theorem repeatChime_memory (v : VoiceChime) (done : Nat) (s : State) :
    (repeatChime v done s).memory = s.memory := by
  unfold repeatChime
  (try dsimp only)
  (repeat' split) <;> simp

@[simp] theorem repeatChime_pending (v : VoiceChime) (done : Nat) (s : State) :
    (repeatChime v done s).pending = s.pending := by
  unfold repeatChime
  (try dsimp only)
  (repeat' split) <;> simp

@[simp] theorem repeatChime_port (v : VoiceChime) (done : Nat) (s : State) :
    (repeatChime v done s).port = s.port := by
  unfold repeatChime
  (try dsimp only)
  (repeat' split) <;> simp

@[simp] theorem repeatChime_record (v : VoiceChime) (done : Nat) (s : State) :
    (repeatChime v done s).capture.record = s.capture.record := by
  unfold repeatChime
  (try dsimp only)
  (repeat' split) <;> simp

@[simp] theorem writeDone_memory (v : VoiceChime) (done : Nat) (s : State) :
    (writeDone v done s).memory = s.memory := by
  unfold writeDone
  (try dsimp only)
  (repeat' split) <;> simp

@[simp] theorem writeDone_pending (v : VoiceChime) (done : Nat) (s : State) :
    (writeDone v done s).pending = s.pending := by
  unfold writeDone
  (try dsimp only)
  (repeat' split) <;> simp

@[simp] theorem writeDone_port (v : VoiceChime) (done : Nat) (s : State) :
    (writeDone v done s).port = s.port := by
  unfold writeDone
  (try dsimp only)
  (repeat' split) <;> simp

@[simp] theorem writeDone_record (v : VoiceChime) (done : Nat) (s : State) :
    (writeDone v done s).capture.record = s.capture.record := by
  unfold writeDone
  (try dsimp only)
  (repeat' split) <;> simp

@[simp] theorem endRepetition_memory (s : State) :
    (endRepetition s).memory = s.memory := by
  unfold endRepetition
  (try dsimp only)
  (repeat' split) <;> simp

@[simp] theorem endRepetition_pending (s : State) :
    (endRepetition s).pending = s.pending := by
  unfold endRepetition
  (try dsimp only)
  (repeat' split) <;> simp

@[simp] theorem endRepetition_port (s : State) :
    (endRepetition s).port = s.port := by
  unfold endRepetition
  (try dsimp only)
  (repeat' split) <;> simp

@[simp] theorem endRepetition_record (s : State) :
    (endRepetition s).capture.record = s.capture.record := by
  unfold endRepetition
  (try dsimp only)
  (repeat' split) <;> simp

@[simp] theorem preempt_memory (v : VoiceChime) (s : State) :
    (preempt v s).memory = s.memory := by
  unfold preempt
  (try dsimp only)
  (repeat' split) <;> simp

@[simp] theorem preempt_pending (v : VoiceChime) (s : State) :
    (preempt v s).pending = s.pending := by
  unfold preempt
  (try dsimp only)
  (repeat' split) <;> simp

@[simp] theorem preempt_port (v : VoiceChime) (s : State) :
    (preempt v s).port = s.port := by
  unfold preempt
  (try dsimp only)
  (repeat' split) <;> simp

@[simp] theorem preempt_record (v : VoiceChime) (s : State) :
    (preempt v s).capture.record = s.capture.record := by
  unfold preempt
  (try dsimp only)
  (repeat' split) <;> simp

@[simp] theorem voiceBoundary_memory (s : State) :
    (voiceBoundary s).memory = s.memory := by
  unfold voiceBoundary
  (try dsimp only)
  (repeat' split) <;> simp

@[simp] theorem voiceBoundary_pending (s : State) :
    (voiceBoundary s).pending = s.pending := by
  unfold voiceBoundary
  (try dsimp only)
  (repeat' split) <;> simp

@[simp] theorem voiceBoundary_port (s : State) :
    (voiceBoundary s).port = s.port := by
  unfold voiceBoundary
  (try dsimp only)
  (repeat' split) <;> simp

@[simp] theorem voiceBoundary_record (s : State) :
    (voiceBoundary s).capture.record = s.capture.record := by
  unfold voiceBoundary
  (try dsimp only)
  (repeat' split) <;> simp

@[simp] theorem endRelease_memory (s : State) :
    (endRelease s).memory = s.memory := by
  unfold endRelease
  (try dsimp only)
  (repeat' split) <;> simp

@[simp] theorem endRelease_pending (s : State) :
    (endRelease s).pending = s.pending := by
  unfold endRelease
  (try dsimp only)
  (repeat' split) <;> simp

@[simp] theorem endRelease_port (s : State) :
    (endRelease s).port = s.port := by
  unfold endRelease
  (try dsimp only)
  (repeat' split) <;> simp

@[simp] theorem endRelease_record (s : State) :
    (endRelease s).capture.record = s.capture.record := by
  unfold endRelease
  (try dsimp only)
  (repeat' split) <;> simp

@[simp] theorem askRun_memory (r : ClipRun) (s : State) :
    (askRun r s).memory = s.memory := by
  unfold askRun
  (try dsimp only)
  (repeat' split) <;> simp

@[simp] theorem askRun_pending (r : ClipRun) (s : State) :
    (askRun r s).pending = s.pending := by
  unfold askRun
  (try dsimp only)
  (repeat' split) <;> simp

@[simp] theorem askRun_port (r : ClipRun) (s : State) :
    (askRun r s).port = s.port := by
  unfold askRun
  (try dsimp only)
  (repeat' split) <;> simp

@[simp] theorem askRun_record (r : ClipRun) (s : State) :
    (askRun r s).capture.record = s.capture.record := by
  unfold askRun
  (try dsimp only)
  (repeat' split) <;> simp

@[simp] theorem dropClips_memory (s : State) : (dropClips s).memory = s.memory := rfl

@[simp] theorem dropClips_pending (s : State) : (dropClips s).pending = s.pending := rfl

@[simp] theorem dropClips_port (s : State) : (dropClips s).port = s.port := rfl

@[simp] theorem dropClips_record (s : State) : (dropClips s).capture.record = s.capture.record := rfl

@[simp] theorem presentClips_memory (s : State) :
    (presentClips s).memory = s.memory := by
  unfold presentClips
  (try dsimp only)
  (repeat' split) <;> simp

@[simp] theorem presentClips_pending (s : State) :
    (presentClips s).pending = s.pending := by
  unfold presentClips
  (try dsimp only)
  (repeat' split) <;> simp

@[simp] theorem presentClips_port (s : State) :
    (presentClips s).port = s.port := by
  unfold presentClips
  (try dsimp only)
  (repeat' split) <;> simp

@[simp] theorem presentClips_record (s : State) :
    (presentClips s).capture.record = s.capture.record := by
  unfold presentClips
  (try dsimp only)
  (repeat' split) <;> simp

@[simp] theorem takeSequence_memory (n : Nat) (sequence : Word) (s : State) :
    (takeSequence n sequence s).memory = s.memory := by
  unfold takeSequence
  (try dsimp only)
  (repeat' split) <;> simp

@[simp] theorem takeSequence_pending (n : Nat) (sequence : Word) (s : State) :
    (takeSequence n sequence s).pending = s.pending := by
  unfold takeSequence
  (try dsimp only)
  (repeat' split) <;> simp

@[simp] theorem takeSequence_port (n : Nat) (sequence : Word) (s : State) :
    (takeSequence n sequence s).port = s.port := by
  unfold takeSequence
  (try dsimp only)
  (repeat' split) <;> simp

@[simp] theorem takeSequence_record (n : Nat) (sequence : Word) (s : State) :
    (takeSequence n sequence s).capture.record = s.capture.record := by
  unfold takeSequence
  (try dsimp only)
  (repeat' split) <;> simp

@[simp] theorem playCard_memory (n : Nat) (c : ChimeCard) (s : State) :
    (playCard n c s).memory = s.memory := by
  unfold playCard
  (try dsimp only)
  (repeat' split) <;> simp

@[simp] theorem playCard_pending (n : Nat) (c : ChimeCard) (s : State) :
    (playCard n c s).pending = s.pending := by
  unfold playCard
  (try dsimp only)
  (repeat' split) <;> simp

@[simp] theorem playCard_port (n : Nat) (c : ChimeCard) (s : State) :
    (playCard n c s).port = s.port := by
  unfold playCard
  (try dsimp only)
  (repeat' split) <;> simp

@[simp] theorem playCard_record (n : Nat) (c : ChimeCard) (s : State) :
    (playCard n c s).capture.record = s.capture.record := by
  unfold playCard
  (try dsimp only)
  (repeat' split) <;> simp

@[simp] theorem stopCard_memory (n : Nat) (s : State) :
    (stopCard n s).memory = s.memory := by
  unfold stopCard
  (try dsimp only)
  (repeat' split) <;> simp

@[simp] theorem stopCard_pending (n : Nat) (s : State) :
    (stopCard n s).pending = s.pending := by
  unfold stopCard
  (try dsimp only)
  (repeat' split) <;> simp

@[simp] theorem stopCard_port (n : Nat) (s : State) :
    (stopCard n s).port = s.port := by
  unfold stopCard
  (try dsimp only)
  (repeat' split) <;> simp

@[simp] theorem stopCard_record (n : Nat) (s : State) :
    (stopCard n s).capture.record = s.capture.record := by
  unfold stopCard
  (try dsimp only)
  (repeat' split) <;> simp

@[simp] theorem refuseCard_memory (n : Nat) (s : State) :
    (refuseCard n s).memory = s.memory := by
  unfold refuseCard
  (try dsimp only)
  (repeat' split) <;> simp

@[simp] theorem refuseCard_pending (n : Nat) (s : State) :
    (refuseCard n s).pending = s.pending := by
  unfold refuseCard
  (try dsimp only)
  (repeat' split) <;> simp

@[simp] theorem refuseCard_port (n : Nat) (s : State) :
    (refuseCard n s).port = s.port := by
  unfold refuseCard
  (try dsimp only)
  (repeat' split) <;> simp

@[simp] theorem refuseCard_record (n : Nat) (s : State) :
    (refuseCard n s).capture.record = s.capture.record := by
  unfold refuseCard
  (try dsimp only)
  (repeat' split) <;> simp

@[simp] theorem takeCard_memory (n : Nat) (c : ChimeCard) (s : State) :
    (takeCard n c s).memory = s.memory := by
  unfold takeCard
  (try dsimp only)
  (repeat' split) <;> simp

@[simp] theorem takeCard_pending (n : Nat) (c : ChimeCard) (s : State) :
    (takeCard n c s).pending = s.pending := by
  unfold takeCard
  (try dsimp only)
  (repeat' split) <;> simp

@[simp] theorem takeCard_port (n : Nat) (c : ChimeCard) (s : State) :
    (takeCard n c s).port = s.port := by
  unfold takeCard
  (try dsimp only)
  (repeat' split) <;> simp

@[simp] theorem takeCard_record (n : Nat) (c : ChimeCard) (s : State) :
    (takeCard n c s).capture.record = s.capture.record := by
  unfold takeCard
  (try dsimp only)
  (repeat' split) <;> simp

@[simp] theorem handCard_memory (n : Nat) (c : ChimeCard) (s : State) :
    (handCard n c s).memory = s.memory := by
  unfold handCard
  (try dsimp only)
  (repeat' split) <;> simp

@[simp] theorem handCard_pending (n : Nat) (c : ChimeCard) (s : State) :
    (handCard n c s).pending = s.pending := by
  unfold handCard
  (try dsimp only)
  (repeat' split) <;> simp

@[simp] theorem handCard_port (n : Nat) (c : ChimeCard) (s : State) :
    (handCard n c s).port = s.port := by
  unfold handCard
  (try dsimp only)
  (repeat' split) <;> simp

@[simp] theorem handCard_record (n : Nat) (c : ChimeCard) (s : State) :
    (handCard n c s).capture.record = s.capture.record := by
  unfold handCard
  (try dsimp only)
  (repeat' split) <;> simp

@[simp] theorem handTray_memory (bytes : List Byte) (s : State) :
    (handTray bytes s).memory = s.memory := by
  unfold handTray
  (try dsimp only)
  (repeat' split) <;> simp

@[simp] theorem handTray_pending (bytes : List Byte) (s : State) :
    (handTray bytes s).pending = s.pending := by
  unfold handTray
  (try dsimp only)
  (repeat' split) <;> simp

@[simp] theorem handTray_port (bytes : List Byte) (s : State) :
    (handTray bytes s).port = s.port := by
  unfold handTray
  (try dsimp only)
  (repeat' split) <;> simp

@[simp] theorem handTray_record (bytes : List Byte) (s : State) :
    (handTray bytes s).capture.record = s.capture.record := by
  unfold handTray
  (try dsimp only)
  (repeat' split) <;> simp

@[simp] theorem requestInternal_memory (src : ChimeSource) (s : State) :
    (requestInternal src s).memory = s.memory := by
  unfold requestInternal
  (try dsimp only)
  (repeat' split) <;> simp

@[simp] theorem requestInternal_pending (src : ChimeSource) (s : State) :
    (requestInternal src s).pending = s.pending := by
  unfold requestInternal
  (try dsimp only)
  (repeat' split) <;> simp

@[simp] theorem requestInternal_port (src : ChimeSource) (s : State) :
    (requestInternal src s).port = s.port := by
  unfold requestInternal
  (try dsimp only)
  (repeat' split) <;> simp

@[simp] theorem requestInternal_record (src : ChimeSource) (s : State) :
    (requestInternal src s).capture.record = s.capture.record := by
  unfold requestInternal
  (try dsimp only)
  (repeat' split) <;> simp

@[simp] theorem State.onProximity_memory (f : Proximity → Proximity) (s : State) :
    (State.onProximity f s).memory = s.memory := rfl

@[simp] theorem State.onProximity_pending (f : Proximity → Proximity) (s : State) :
    (State.onProximity f s).pending = s.pending := rfl

@[simp] theorem State.onProximity_port (f : Proximity → Proximity) (s : State) :
    (State.onProximity f s).port = s.port := rfl

@[simp] theorem State.onProximity_record (f : Proximity → Proximity) (s : State) :
    (State.onProximity f s).capture.record = s.capture.record := by
  unfold State.onProximity
  (try dsimp only)
  (repeat' split) <;> simp

@[simp] theorem evaluateProximity_memory (s : State) :
    (evaluateProximity s).memory = s.memory := by
  unfold evaluateProximity
  (try dsimp only)
  (repeat' split) <;> simp

@[simp] theorem evaluateProximity_pending (s : State) :
    (evaluateProximity s).pending = s.pending := by
  unfold evaluateProximity
  (try dsimp only)
  (repeat' split) <;> simp

@[simp] theorem evaluateProximity_port (s : State) :
    (evaluateProximity s).port = s.port := by
  unfold evaluateProximity
  (try dsimp only)
  (repeat' split) <;> simp

@[simp] theorem evaluateProximity_record (s : State) :
    (evaluateProximity s).capture.record = s.capture.record := by
  unfold evaluateProximity
  (try dsimp only)
  (repeat' split) <;> simp

@[simp] theorem reportDistance_memory (fresh : Bool) (d : Option Nat) (s : State) :
    (reportDistance fresh d s).memory = s.memory := by
  unfold reportDistance
  (try dsimp only)
  (repeat' split) <;> simp

@[simp] theorem reportDistance_pending (fresh : Bool) (d : Option Nat) (s : State) :
    (reportDistance fresh d s).pending = s.pending := by
  unfold reportDistance
  (try dsimp only)
  (repeat' split) <;> simp

@[simp] theorem reportDistance_port (fresh : Bool) (d : Option Nat) (s : State) :
    (reportDistance fresh d s).port = s.port := by
  unfold reportDistance
  (try dsimp only)
  (repeat' split) <;> simp

@[simp] theorem reportDistance_record (fresh : Bool) (d : Option Nat) (s : State) :
    (reportDistance fresh d s).capture.record = s.capture.record := by
  unfold reportDistance
  (try dsimp only)
  (repeat' split) <;> simp

@[simp] theorem handShowing_memory (showing : Bool) (s : State) :
    (handShowing showing s).memory = s.memory := by
  unfold handShowing
  (try dsimp only)
  (repeat' split) <;> simp

@[simp] theorem handShowing_pending (showing : Bool) (s : State) :
    (handShowing showing s).pending = s.pending := by
  unfold handShowing
  (try dsimp only)
  (repeat' split) <;> simp

@[simp] theorem handShowing_port (showing : Bool) (s : State) :
    (handShowing showing s).port = s.port := by
  unfold handShowing
  (try dsimp only)
  (repeat' split) <;> simp

@[simp] theorem handShowing_record (showing : Bool) (s : State) :
    (handShowing showing s).capture.record = s.capture.record := by
  unfold handShowing
  (try dsimp only)
  (repeat' split) <;> simp

@[simp] theorem proximityBoundary_memory (s : State) :
    (proximityBoundary s).memory = s.memory := by
  unfold proximityBoundary
  (try dsimp only)
  (repeat' split) <;> simp

@[simp] theorem proximityBoundary_pending (s : State) :
    (proximityBoundary s).pending = s.pending := by
  unfold proximityBoundary
  (try dsimp only)
  (repeat' split) <;> simp

@[simp] theorem proximityBoundary_port (s : State) :
    (proximityBoundary s).port = s.port := by
  unfold proximityBoundary
  (try dsimp only)
  (repeat' split) <;> simp

@[simp] theorem proximityBoundary_record (s : State) :
    (proximityBoundary s).capture.record = s.capture.record := by
  unfold proximityBoundary
  (try dsimp only)
  (repeat' split) <;> simp

@[simp] theorem missClip_memory (s : State) :
    (missClip s).memory = s.memory := by
  unfold missClip
  (try dsimp only)
  (repeat' split) <;> simp

@[simp] theorem missClip_pending (s : State) :
    (missClip s).pending = s.pending := by
  unfold missClip
  (try dsimp only)
  (repeat' split) <;> simp

@[simp] theorem missClip_port (s : State) :
    (missClip s).port = s.port := by
  unfold missClip
  (try dsimp only)
  (repeat' split) <;> simp

@[simp] theorem missClip_record (s : State) :
    (missClip s).capture.record = s.capture.record := by
  unfold missClip
  (try dsimp only)
  (repeat' split) <;> simp

@[simp] theorem advanceVoice_memory (s : State) :
    (advanceVoice s).memory = s.memory := by
  unfold advanceVoice
  (try dsimp only)
  (repeat' split) <;> simp

@[simp] theorem advanceVoice_pending (s : State) :
    (advanceVoice s).pending = s.pending := by
  unfold advanceVoice
  (try dsimp only)
  (repeat' split) <;> simp

@[simp] theorem advanceVoice_port (s : State) :
    (advanceVoice s).port = s.port := by
  unfold advanceVoice
  (try dsimp only)
  (repeat' split) <;> simp

@[simp] theorem advanceVoice_record (s : State) :
    (advanceVoice s).capture.record = s.capture.record := by
  unfold advanceVoice
  (try dsimp only)
  (repeat' split) <;> simp

@[simp] theorem advanceChimes_memory (s : State) :
    (advanceChimes s).memory = s.memory := by
  unfold advanceChimes
  (try dsimp only)
  (repeat' split) <;> simp

@[simp] theorem advanceChimes_pending (s : State) :
    (advanceChimes s).pending = s.pending := by
  unfold advanceChimes
  (try dsimp only)
  (repeat' split) <;> simp

@[simp] theorem advanceChimes_port (s : State) :
    (advanceChimes s).port = s.port := by
  unfold advanceChimes
  (try dsimp only)
  (repeat' split) <;> simp

@[simp] theorem advanceChimes_record (s : State) :
    (advanceChimes s).capture.record = s.capture.record := by
  unfold advanceChimes
  (try dsimp only)
  (repeat' split) <;> simp

@[simp] theorem detachChimes_memory (s : State) :
    (detachChimes s).memory = s.memory := by
  unfold detachChimes
  (try dsimp only)
  (repeat' split) <;> simp

@[simp] theorem detachChimes_pending (s : State) :
    (detachChimes s).pending = s.pending := by
  unfold detachChimes
  (try dsimp only)
  (repeat' split) <;> simp

@[simp] theorem detachChimes_port (s : State) :
    (detachChimes s).port = s.port := by
  unfold detachChimes
  (try dsimp only)
  (repeat' split) <;> simp

@[simp] theorem detachChimes_record (s : State) :
    (detachChimes s).capture.record = s.capture.record := by
  unfold detachChimes
  (try dsimp only)
  (repeat' split) <;> simp

/-! ## Machine/Guide.lean -/

@[simp] theorem takeVehicle_memory (bytes : List Byte) (s : State) :
    (takeVehicle bytes s).memory = s.memory := by
  unfold takeVehicle
  (try dsimp only)
  (repeat' split) <;> simp

@[simp] theorem takeVehicle_pending (bytes : List Byte) (s : State) :
    (takeVehicle bytes s).pending = s.pending := by
  unfold takeVehicle
  (try dsimp only)
  (repeat' split) <;> simp

@[simp] theorem takeVehicle_port (bytes : List Byte) (s : State) :
    (takeVehicle bytes s).port = s.port := by
  unfold takeVehicle
  (try dsimp only)
  (repeat' split) <;> simp

@[simp] theorem takeVehicle_record (bytes : List Byte) (s : State) :
    (takeVehicle bytes s).capture.record = s.capture.record := by
  unfold takeVehicle
  (try dsimp only)
  (repeat' split) <;> simp

@[simp] theorem expireFreshness_memory (s : State) :
    (expireFreshness s).memory = s.memory := by
  unfold expireFreshness
  (try dsimp only)
  (repeat' split) <;> simp

@[simp] theorem expireFreshness_pending (s : State) :
    (expireFreshness s).pending = s.pending := by
  unfold expireFreshness
  (try dsimp only)
  (repeat' split) <;> simp

@[simp] theorem expireFreshness_port (s : State) :
    (expireFreshness s).port = s.port := by
  unfold expireFreshness
  (try dsimp only)
  (repeat' split) <;> simp

@[simp] theorem expireFreshness_record (s : State) :
    (expireFreshness s).capture.record = s.capture.record := by
  unfold expireFreshness
  (try dsimp only)
  (repeat' split) <;> simp

@[simp] theorem guideFrameCode_memory (s : State) :
    (guideFrameCode s).memory = s.memory := by
  unfold guideFrameCode
  (try dsimp only)
  (repeat' split) <;> simp

@[simp] theorem guideFrameCode_pending (s : State) :
    (guideFrameCode s).pending = s.pending := by
  unfold guideFrameCode
  (try dsimp only)
  (repeat' split) <;> simp

@[simp] theorem guideFrameCode_port (s : State) :
    (guideFrameCode s).port = s.port := by
  unfold guideFrameCode
  (try dsimp only)
  (repeat' split) <;> simp

@[simp] theorem guideFrameCode_record (s : State) :
    (guideFrameCode s).capture.record = s.capture.record := by
  unfold guideFrameCode
  (try dsimp only)
  (repeat' split) <;> simp

@[simp] theorem completeComputation_memory (s : State) :
    (completeComputation s).memory = s.memory := by
  unfold completeComputation
  (try dsimp only)
  (repeat' split) <;> simp

@[simp] theorem completeComputation_pending (s : State) :
    (completeComputation s).pending = s.pending := by
  unfold completeComputation
  (try dsimp only)
  (repeat' split) <;> simp

@[simp] theorem completeComputation_port (s : State) :
    (completeComputation s).port = s.port := by
  unfold completeComputation
  (try dsimp only)
  (repeat' split) <;> simp

@[simp] theorem completeComputation_record (s : State) :
    (completeComputation s).capture.record = s.capture.record := by
  unfold completeComputation
  (try dsimp only)
  (repeat' split) <;> simp

@[simp] theorem dropGuideSets_memory (s : State) :
    (dropGuideSets s).memory = s.memory := by
  unfold dropGuideSets
  (try dsimp only)
  (repeat' split) <;> simp

@[simp] theorem dropGuideSets_pending (s : State) :
    (dropGuideSets s).pending = s.pending := by
  unfold dropGuideSets
  (try dsimp only)
  (repeat' split) <;> simp

@[simp] theorem dropGuideSets_port (s : State) :
    (dropGuideSets s).port = s.port := by
  unfold dropGuideSets
  (try dsimp only)
  (repeat' split) <;> simp

@[simp] theorem dropGuideSets_record (s : State) :
    (dropGuideSets s).capture.record = s.capture.record := by
  unfold dropGuideSets
  (try dsimp only)
  (repeat' split) <;> simp

@[simp] theorem detachGuide_memory (s : State) :
    (detachGuide s).memory = s.memory := by
  unfold detachGuide
  (try dsimp only)
  (repeat' split) <;> simp

@[simp] theorem detachGuide_pending (s : State) :
    (detachGuide s).pending = s.pending := by
  unfold detachGuide
  (try dsimp only)
  (repeat' split) <;> simp

@[simp] theorem detachGuide_port (s : State) :
    (detachGuide s).port = s.port := by
  unfold detachGuide
  (try dsimp only)
  (repeat' split) <;> simp

@[simp] theorem detachGuide_record (s : State) :
    (detachGuide s).capture.record = s.capture.record := by
  unfold detachGuide
  (try dsimp only)
  (repeat' split) <;> simp

/-! ## Machine/Reverse.lean -/

@[simp] theorem handOutputs_memory (s : State) :
    (handOutputs s).memory = s.memory := by
  unfold handOutputs
  (try dsimp only)
  (repeat' split) <;> simp

@[simp] theorem handOutputs_pending (s : State) :
    (handOutputs s).pending = s.pending := by
  unfold handOutputs
  (try dsimp only)
  (repeat' split) <;> simp

@[simp] theorem handOutputs_port (s : State) :
    (handOutputs s).port = s.port := by
  unfold handOutputs
  (try dsimp only)
  (repeat' split) <;> simp

@[simp] theorem handOutputs_record (s : State) :
    (handOutputs s).capture.record = s.capture.record := by
  unfold handOutputs
  (try dsimp only)
  (repeat' split) <;> simp

@[simp] theorem enterView_memory (v : View) (s : State) :
    (enterView v s).memory = s.memory := by
  unfold enterView
  (try dsimp only)
  (repeat' split) <;> simp

@[simp] theorem enterView_pending (v : View) (s : State) :
    (enterView v s).pending = s.pending := by
  unfold enterView
  (try dsimp only)
  (repeat' split) <;> simp

@[simp] theorem enterView_port (v : View) (s : State) :
    (enterView v s).port = s.port := by
  unfold enterView
  (try dsimp only)
  (repeat' split) <;> simp

@[simp] theorem enterView_record (v : View) (s : State) :
    (enterView v s).capture.record = s.capture.record := by
  unfold enterView
  (try dsimp only)
  (repeat' split) <;> simp

@[simp] theorem setView_memory (v : View) (s : State) :
    (setView v s).memory = s.memory := by
  unfold setView
  (try dsimp only)
  (repeat' split) <;> simp

@[simp] theorem setView_pending (v : View) (s : State) :
    (setView v s).pending = s.pending := by
  unfold setView
  (try dsimp only)
  (repeat' split) <;> simp

@[simp] theorem setView_port (v : View) (s : State) :
    (setView v s).port = s.port := by
  unfold setView
  (try dsimp only)
  (repeat' split) <;> simp

@[simp] theorem setView_record (v : View) (s : State) :
    (setView v s).capture.record = s.capture.record := by
  unfold setView
  (try dsimp only)
  (repeat' split) <;> simp

@[simp] theorem showFromWaking_memory (s : State) :
    (showFromWaking s).memory = s.memory := by
  unfold showFromWaking
  (try dsimp only)
  (repeat' split) <;> simp

@[simp] theorem showFromWaking_pending (s : State) :
    (showFromWaking s).pending = s.pending := by
  unfold showFromWaking
  (try dsimp only)
  (repeat' split) <;> simp

@[simp] theorem showFromWaking_port (s : State) :
    (showFromWaking s).port = s.port := by
  unfold showFromWaking
  (try dsimp only)
  (repeat' split) <;> simp

@[simp] theorem showFromWaking_record (s : State) :
    (showFromWaking s).capture.record = s.capture.record := by
  unfold showFromWaking
  (try dsimp only)
  (repeat' split) <;> simp

@[simp] theorem viewDelivery_memory (s : State) :
    (viewDelivery s).memory = s.memory := by
  unfold viewDelivery
  (try dsimp only)
  (repeat' split) <;> simp

@[simp] theorem viewDelivery_pending (s : State) :
    (viewDelivery s).pending = s.pending := by
  unfold viewDelivery
  (try dsimp only)
  (repeat' split) <;> simp

@[simp] theorem viewDelivery_port (s : State) :
    (viewDelivery s).port = s.port := by
  unfold viewDelivery
  (try dsimp only)
  (repeat' split) <;> simp

@[simp] theorem viewDelivery_record (s : State) :
    (viewDelivery s).capture.record = s.capture.record := by
  unfold viewDelivery
  (try dsimp only)
  (repeat' split) <;> simp

@[simp] theorem deliver_memory (s : State) :
    (deliver s).memory = s.memory := by
  unfold deliver
  (try dsimp only)
  (repeat' split) <;> simp

@[simp] theorem deliver_pending (s : State) :
    (deliver s).pending = s.pending := by
  unfold deliver
  (try dsimp only)
  (repeat' split) <;> simp

@[simp] theorem deliver_port (s : State) :
    (deliver s).port = s.port := by
  unfold deliver
  (try dsimp only)
  (repeat' split) <;> simp

@[simp] theorem deliver_record (s : State) :
    (deliver s).capture.record = s.capture.record := by
  unfold deliver
  (try dsimp only)
  (repeat' split) <;> simp

@[simp] theorem undeliver_memory (s : State) :
    (undeliver s).memory = s.memory := by
  unfold undeliver
  (try dsimp only)
  (repeat' split) <;> simp

@[simp] theorem undeliver_pending (s : State) :
    (undeliver s).pending = s.pending := by
  unfold undeliver
  (try dsimp only)
  (repeat' split) <;> simp

@[simp] theorem undeliver_port (s : State) :
    (undeliver s).port = s.port := by
  unfold undeliver
  (try dsimp only)
  (repeat' split) <;> simp

@[simp] theorem undeliver_record (s : State) :
    (undeliver s).capture.record = s.capture.record := by
  unfold undeliver
  (try dsimp only)
  (repeat' split) <;> simp

@[simp] theorem viewLost_memory (s : State) :
    (viewLost s).memory = s.memory := by
  unfold viewLost
  (try dsimp only)
  (repeat' split) <;> simp

@[simp] theorem viewLost_pending (s : State) :
    (viewLost s).pending = s.pending := by
  unfold viewLost
  (try dsimp only)
  (repeat' split) <;> simp

@[simp] theorem viewLost_port (s : State) :
    (viewLost s).port = s.port := by
  unfold viewLost
  (try dsimp only)
  (repeat' split) <;> simp

@[simp] theorem viewLost_record (s : State) :
    (viewLost s).capture.record = s.capture.record := by
  unfold viewLost
  (try dsimp only)
  (repeat' split) <;> simp

@[simp] theorem engage_memory (s : State) :
    (engage s).memory = s.memory := by
  unfold engage
  (try dsimp only)
  (repeat' split) <;> simp

@[simp] theorem engage_pending (s : State) :
    (engage s).pending = s.pending := by
  unfold engage
  (try dsimp only)
  (repeat' split) <;> simp

@[simp] theorem engage_port (s : State) :
    (engage s).port = s.port := by
  unfold engage
  (try dsimp only)
  (repeat' split) <;> simp

@[simp] theorem engage_record (s : State) :
    (engage s).capture.record = s.capture.record := by
  unfold engage
  (try dsimp only)
  (repeat' split) <;> simp

@[simp] theorem assertReverse_memory (s : State) :
    (assertReverse s).memory = s.memory := by
  unfold assertReverse
  (try dsimp only)
  (repeat' split) <;> simp

@[simp] theorem assertReverse_pending (s : State) :
    (assertReverse s).pending = s.pending := by
  unfold assertReverse
  (try dsimp only)
  (repeat' split) <;> simp

@[simp] theorem assertReverse_port (s : State) :
    (assertReverse s).port = s.port := by
  unfold assertReverse
  (try dsimp only)
  (repeat' split) <;> simp

@[simp] theorem assertReverse_record (s : State) :
    (assertReverse s).capture.record = s.capture.record := by
  unfold assertReverse
  (try dsimp only)
  (repeat' split) <;> simp

@[simp] theorem beginLinger_memory (s : State) :
    (beginLinger s).memory = s.memory := by
  unfold beginLinger
  (try dsimp only)
  (repeat' split) <;> simp

@[simp] theorem beginLinger_pending (s : State) :
    (beginLinger s).pending = s.pending := by
  unfold beginLinger
  (try dsimp only)
  (repeat' split) <;> simp

@[simp] theorem beginLinger_port (s : State) :
    (beginLinger s).port = s.port := by
  unfold beginLinger
  (try dsimp only)
  (repeat' split) <;> simp

@[simp] theorem beginLinger_record (s : State) :
    (beginLinger s).capture.record = s.capture.record := by
  unfold beginLinger
  (try dsimp only)
  (repeat' split) <;> simp

@[simp] theorem releaseReverse_memory (s : State) :
    (releaseReverse s).memory = s.memory := by
  unfold releaseReverse
  (try dsimp only)
  (repeat' split) <;> simp

@[simp] theorem releaseReverse_pending (s : State) :
    (releaseReverse s).pending = s.pending := by
  unfold releaseReverse
  (try dsimp only)
  (repeat' split) <;> simp

@[simp] theorem releaseReverse_port (s : State) :
    (releaseReverse s).port = s.port := by
  unfold releaseReverse
  (try dsimp only)
  (repeat' split) <;> simp

@[simp] theorem releaseReverse_record (s : State) :
    (releaseReverse s).capture.record = s.capture.record := by
  unfold releaseReverse
  (try dsimp only)
  (repeat' split) <;> simp

@[simp] theorem rawChange_memory (engaged : Bool) (s : State) :
    (rawChange engaged s).memory = s.memory := by
  unfold rawChange
  (try dsimp only)
  (repeat' split) <;> simp

@[simp] theorem rawChange_pending (engaged : Bool) (s : State) :
    (rawChange engaged s).pending = s.pending := by
  unfold rawChange
  (try dsimp only)
  (repeat' split) <;> simp

@[simp] theorem rawChange_port (engaged : Bool) (s : State) :
    (rawChange engaged s).port = s.port := by
  unfold rawChange
  (try dsimp only)
  (repeat' split) <;> simp

@[simp] theorem rawChange_record (engaged : Bool) (s : State) :
    (rawChange engaged s).capture.record = s.capture.record := by
  unfold rawChange
  (try dsimp only)
  (repeat' split) <;> simp

@[simp] theorem takeLevel_memory (s : State) :
    (takeLevel s).memory = s.memory := by
  unfold takeLevel
  (try dsimp only)
  (repeat' split) <;> simp

@[simp] theorem takeLevel_pending (s : State) :
    (takeLevel s).pending = s.pending := by
  unfold takeLevel
  (try dsimp only)
  (repeat' split) <;> simp

@[simp] theorem takeLevel_port (s : State) :
    (takeLevel s).port = s.port := by
  unfold takeLevel
  (try dsimp only)
  (repeat' split) <;> simp

@[simp] theorem takeLevel_record (s : State) :
    (takeLevel s).capture.record = s.capture.record := by
  unfold takeLevel
  (try dsimp only)
  (repeat' split) <;> simp

@[simp] theorem expireDeadline_memory (s : State) :
    (expireDeadline s).memory = s.memory := by
  unfold expireDeadline
  (try dsimp only)
  (repeat' split) <;> simp

@[simp] theorem expireDeadline_pending (s : State) :
    (expireDeadline s).pending = s.pending := by
  unfold expireDeadline
  (try dsimp only)
  (repeat' split) <;> simp

@[simp] theorem expireDeadline_port (s : State) :
    (expireDeadline s).port = s.port := by
  unfold expireDeadline
  (try dsimp only)
  (repeat' split) <;> simp

@[simp] theorem expireDeadline_record (s : State) :
    (expireDeadline s).capture.record = s.capture.record := by
  unfold expireDeadline
  (try dsimp only)
  (repeat' split) <;> simp

@[simp] theorem endLinger_memory (s : State) :
    (endLinger s).memory = s.memory := by
  unfold endLinger
  (try dsimp only)
  (repeat' split) <;> simp

@[simp] theorem endLinger_pending (s : State) :
    (endLinger s).pending = s.pending := by
  unfold endLinger
  (try dsimp only)
  (repeat' split) <;> simp

@[simp] theorem endLinger_port (s : State) :
    (endLinger s).port = s.port := by
  unfold endLinger
  (try dsimp only)
  (repeat' split) <;> simp

@[simp] theorem endLinger_record (s : State) :
    (endLinger s).capture.record = s.capture.record := by
  unfold endLinger
  (try dsimp only)
  (repeat' split) <;> simp

@[simp] theorem viewCameraOff_memory (s : State) :
    (viewCameraOff s).memory = s.memory := by
  unfold viewCameraOff
  (try dsimp only)
  (repeat' split) <;> simp

@[simp] theorem viewCameraOff_pending (s : State) :
    (viewCameraOff s).pending = s.pending := by
  unfold viewCameraOff
  (try dsimp only)
  (repeat' split) <;> simp

@[simp] theorem viewCameraOff_port (s : State) :
    (viewCameraOff s).port = s.port := by
  unfold viewCameraOff
  (try dsimp only)
  (repeat' split) <;> simp

@[simp] theorem viewCameraOff_record (s : State) :
    (viewCameraOff s).capture.record = s.capture.record := by
  unfold viewCameraOff
  (try dsimp only)
  (repeat' split) <;> simp

/-! ## Machine/Film.lean -/

@[simp] theorem requestCard_memory (st : Stream) (k : ListKind) (s : State) :
    (requestCard st k s).memory = s.memory := by
  unfold requestCard
  (try dsimp only)
  (repeat' split) <;> simp

@[simp] theorem requestCard_pending (st : Stream) (k : ListKind) (s : State) :
    (requestCard st k s).pending = s.pending := by
  unfold requestCard
  (try dsimp only)
  (repeat' split) <;> simp

@[simp] theorem requestCard_port (st : Stream) (k : ListKind) (s : State) :
    (requestCard st k s).port = s.port := by
  unfold requestCard
  (try dsimp only)
  (repeat' split) <;> simp

@[simp] theorem requestCard_record (st : Stream) (k : ListKind) (s : State) :
    (requestCard st k s).capture.record = s.capture.record := by
  unfold requestCard
  (try dsimp only)
  (repeat' split) <;> simp

@[simp] theorem postedError_memory (st : Stream) (k : ListKind) (s : State) :
    (postedError st k s).memory = s.memory := by
  unfold postedError
  (try dsimp only)
  (repeat' split) <;> simp

@[simp] theorem postedError_pending (st : Stream) (k : ListKind) (s : State) :
    (postedError st k s).pending = s.pending := by
  unfold postedError
  (try dsimp only)
  (repeat' split) <;> simp

@[simp] theorem postedError_port (st : Stream) (k : ListKind) (s : State) :
    (postedError st k s).port = s.port := by
  unfold postedError
  (try dsimp only)
  (repeat' split) <;> simp

@[simp] theorem postedError_record (st : Stream) (k : ListKind) (s : State) :
    (postedError st k s).capture.record = s.capture.record := by
  unfold postedError
  (try dsimp only)
  (repeat' split) <;> simp

@[simp] theorem handPosted_memory (st : Stream) (k : ListKind) (v : Word) (s : State) :
    (handPosted st k v s).memory = s.memory := by
  unfold handPosted
  (try dsimp only)
  (repeat' split) <;> simp

@[simp] theorem handPosted_pending (st : Stream) (k : ListKind) (v : Word) (s : State) :
    (handPosted st k v s).pending = s.pending := by
  unfold handPosted
  (try dsimp only)
  (repeat' split) <;> simp

@[simp] theorem handPosted_port (st : Stream) (k : ListKind) (v : Word) (s : State) :
    (handPosted st k v s).port = s.port := by
  unfold handPosted
  (try dsimp only)
  (repeat' split) <;> simp

@[simp] theorem handPosted_record (st : Stream) (k : ListKind) (v : Word) (s : State) :
    (handPosted st k v s).capture.record = s.capture.record := by
  unfold handPosted
  (try dsimp only)
  (repeat' split) <;> simp

@[simp] theorem handPostedCounts_memory (k : ListKind) (bytes : List Byte) (s : State) :
    (handPostedCounts k bytes s).memory = s.memory := by
  unfold handPostedCounts
  (try dsimp only)
  (repeat' split) <;> simp

@[simp] theorem handPostedCounts_pending (k : ListKind) (bytes : List Byte) (s : State) :
    (handPostedCounts k bytes s).pending = s.pending := by
  unfold handPostedCounts
  (try dsimp only)
  (repeat' split) <;> simp

@[simp] theorem handPostedCounts_port (k : ListKind) (bytes : List Byte) (s : State) :
    (handPostedCounts k bytes s).port = s.port := by
  unfold handPostedCounts
  (try dsimp only)
  (repeat' split) <;> simp

@[simp] theorem handPostedCounts_record (k : ListKind) (bytes : List Byte) (s : State) :
    (handPostedCounts k bytes s).capture.record = s.capture.record := by
  unfold handPostedCounts
  (try dsimp only)
  (repeat' split) <;> simp

@[simp] theorem holdFrameCard_memory (st : Stream) (index : Word) (bytes : List Byte) (s : State) :
    (holdFrameCard st index bytes s).memory = s.memory := by
  unfold holdFrameCard
  (try dsimp only)
  (repeat' split) <;> simp

@[simp] theorem holdFrameCard_pending (st : Stream) (index : Word) (bytes : List Byte) (s : State) :
    (holdFrameCard st index bytes s).pending = s.pending := by
  unfold holdFrameCard
  (try dsimp only)
  (repeat' split) <;> simp

@[simp] theorem holdFrameCard_port (st : Stream) (index : Word) (bytes : List Byte) (s : State) :
    (holdFrameCard st index bytes s).port = s.port := by
  unfold holdFrameCard
  (try dsimp only)
  (repeat' split) <;> simp

@[simp] theorem holdFrameCard_record (st : Stream) (index : Word) (bytes : List Byte) (s : State) :
    (holdFrameCard st index bytes s).capture.record = s.capture.record := by
  unfold holdFrameCard
  (try dsimp only)
  (repeat' split) <;> simp

@[simp] theorem holdSoundCard_memory (st : Stream) (index : Word) (bytes : List Byte) (s : State) :
    (holdSoundCard st index bytes s).memory = s.memory := by
  unfold holdSoundCard
  (try dsimp only)
  (repeat' split) <;> simp

@[simp] theorem holdSoundCard_pending (st : Stream) (index : Word) (bytes : List Byte) (s : State) :
    (holdSoundCard st index bytes s).pending = s.pending := by
  unfold holdSoundCard
  (try dsimp only)
  (repeat' split) <;> simp

@[simp] theorem holdSoundCard_port (st : Stream) (index : Word) (bytes : List Byte) (s : State) :
    (holdSoundCard st index bytes s).port = s.port := by
  unfold holdSoundCard
  (try dsimp only)
  (repeat' split) <;> simp

@[simp] theorem holdSoundCard_record (st : Stream) (index : Word) (bytes : List Byte) (s : State) :
    (holdSoundCard st index bytes s).capture.record = s.capture.record := by
  unfold holdSoundCard
  (try dsimp only)
  (repeat' split) <;> simp

@[simp] theorem cardDone_memory (st : Stream) (k : ListKind) (intake : Nat) (index : Word) (bytes : List Byte) (s : State) :
    (cardDone st k intake index bytes s).memory = s.memory := by
  unfold cardDone
  (try dsimp only)
  (repeat' split) <;> simp

@[simp] theorem cardDone_pending (st : Stream) (k : ListKind) (intake : Nat) (index : Word) (bytes : List Byte) (s : State) :
    (cardDone st k intake index bytes s).pending = s.pending := by
  unfold cardDone
  (try dsimp only)
  (repeat' split) <;> simp

@[simp] theorem cardDone_port (st : Stream) (k : ListKind) (intake : Nat) (index : Word) (bytes : List Byte) (s : State) :
    (cardDone st k intake index bytes s).port = s.port := by
  unfold cardDone
  (try dsimp only)
  (repeat' split) <;> simp

@[simp] theorem cardDone_record (st : Stream) (k : ListKind) (intake : Nat) (index : Word) (bytes : List Byte) (s : State) :
    (cardDone st k intake index bytes s).capture.record = s.capture.record := by
  unfold cardDone
  (try dsimp only)
  (repeat' split) <;> simp

@[simp] theorem cardFault_memory (st : Stream) (k : ListKind) (s : State) :
    (cardFault st k s).memory = s.memory := by
  unfold cardFault
  (try dsimp only)
  (repeat' split) <;> simp

@[simp] theorem cardFault_pending (st : Stream) (k : ListKind) (s : State) :
    (cardFault st k s).pending = s.pending := by
  unfold cardFault
  (try dsimp only)
  (repeat' split) <;> simp

@[simp] theorem cardFault_port (st : Stream) (k : ListKind) (s : State) :
    (cardFault st k s).port = s.port := by
  unfold cardFault
  (try dsimp only)
  (repeat' split) <;> simp

@[simp] theorem cardFault_record (st : Stream) (k : ListKind) (s : State) :
    (cardFault st k s).capture.record = s.capture.record := by
  unfold cardFault
  (try dsimp only)
  (repeat' split) <;> simp

@[simp] theorem retryCards_memory (k : ListKind) (s : State) :
    (retryCards k s).memory = s.memory := by
  unfold retryCards
  (try dsimp only)
  (repeat' split) <;> simp

@[simp] theorem retryCards_pending (k : ListKind) (s : State) :
    (retryCards k s).pending = s.pending := by
  unfold retryCards
  (try dsimp only)
  (repeat' split) <;> simp

@[simp] theorem retryCards_port (k : ListKind) (s : State) :
    (retryCards k s).port = s.port := by
  unfold retryCards
  (try dsimp only)
  (repeat' split) <;> simp

@[simp] theorem retryCards_record (k : ListKind) (s : State) :
    (retryCards k s).capture.record = s.capture.record := by
  unfold retryCards
  (try dsimp only)
  (repeat' split) <;> simp

@[simp] theorem setStreamState_memory (st : Stream) (v : StreamState) (s : State) :
    (setStreamState st v s).memory = s.memory := by
  unfold setStreamState
  (try dsimp only)
  (repeat' split) <;> simp

@[simp] theorem setStreamState_pending (st : Stream) (v : StreamState) (s : State) :
    (setStreamState st v s).pending = s.pending := by
  unfold setStreamState
  (try dsimp only)
  (repeat' split) <;> simp

@[simp] theorem setStreamState_port (st : Stream) (v : StreamState) (s : State) :
    (setStreamState st v s).port = s.port := by
  unfold setStreamState
  (try dsimp only)
  (repeat' split) <;> simp

@[simp] theorem setStreamState_record (st : Stream) (v : StreamState) (s : State) :
    (setStreamState st v s).capture.record = s.capture.record := by
  unfold setStreamState
  (try dsimp only)
  (repeat' split) <;> simp

@[simp] theorem dropFilmLayers_memory (st : Stream) (s : State) :
    (dropFilmLayers st s).memory = s.memory := by
  unfold dropFilmLayers
  (try dsimp only)
  (repeat' split) <;> simp

@[simp] theorem dropFilmLayers_pending (st : Stream) (s : State) :
    (dropFilmLayers st s).pending = s.pending := by
  unfold dropFilmLayers
  (try dsimp only)
  (repeat' split) <;> simp

@[simp] theorem dropFilmLayers_port (st : Stream) (s : State) :
    (dropFilmLayers st s).port = s.port := by
  unfold dropFilmLayers
  (try dsimp only)
  (repeat' split) <;> simp

@[simp] theorem dropFilmLayers_record (st : Stream) (s : State) :
    (dropFilmLayers st s).capture.record = s.capture.record := by
  unfold dropFilmLayers
  (try dsimp only)
  (repeat' split) <;> simp

@[simp] theorem stopStream_memory (st : Stream) (s : State) :
    (stopStream st s).memory = s.memory := by
  unfold stopStream
  (try dsimp only)
  (repeat' split) <;> simp

@[simp] theorem stopStream_pending (st : Stream) (s : State) :
    (stopStream st s).pending = s.pending := by
  unfold stopStream
  (try dsimp only)
  (repeat' split) <;> simp

@[simp] theorem stopStream_port (st : Stream) (s : State) :
    (stopStream st s).port = s.port := by
  unfold stopStream
  (try dsimp only)
  (repeat' split) <;> simp

@[simp] theorem stopStream_record (st : Stream) (s : State) :
    (stopStream st s).capture.record = s.capture.record := by
  unfold stopStream
  (try dsimp only)
  (repeat' split) <;> simp

@[simp] theorem detachStream_memory (st : Stream) (s : State) :
    (detachStream st s).memory = s.memory := by
  unfold detachStream
  (try dsimp only)
  (repeat' split) <;> simp

@[simp] theorem detachStream_pending (st : Stream) (s : State) :
    (detachStream st s).pending = s.pending := by
  unfold detachStream
  (try dsimp only)
  (repeat' split) <;> simp

@[simp] theorem detachStream_port (st : Stream) (s : State) :
    (detachStream st s).port = s.port := by
  unfold detachStream
  (try dsimp only)
  (repeat' split) <;> simp

@[simp] theorem detachStream_record (st : Stream) (s : State) :
    (detachStream st s).capture.record = s.capture.record := by
  unfold detachStream
  (try dsimp only)
  (repeat' split) <;> simp

@[simp] theorem supersede_memory (st : Stream) (s : State) :
    (supersede st s).memory = s.memory := by
  unfold supersede
  (try dsimp only)
  (repeat' split) <;> simp

@[simp] theorem supersede_pending (st : Stream) (s : State) :
    (supersede st s).pending = s.pending := by
  unfold supersede
  (try dsimp only)
  (repeat' split) <;> simp

@[simp] theorem supersede_port (st : Stream) (s : State) :
    (supersede st s).port = s.port := by
  unfold supersede
  (try dsimp only)
  (repeat' split) <;> simp

@[simp] theorem supersede_record (st : Stream) (s : State) :
    (supersede st s).capture.record = s.capture.record := by
  unfold supersede
  (try dsimp only)
  (repeat' split) <;> simp

@[simp] theorem playStream_memory (st : Stream) (a : Ask) (s : State) :
    (playStream st a s).memory = s.memory := by
  unfold playStream
  (try dsimp only)
  (repeat' split) <;> simp

@[simp] theorem playStream_pending (st : Stream) (a : Ask) (s : State) :
    (playStream st a s).pending = s.pending := by
  unfold playStream
  (try dsimp only)
  (repeat' split) <;> simp

@[simp] theorem playStream_port (st : Stream) (a : Ask) (s : State) :
    (playStream st a s).port = s.port := by
  unfold playStream
  (try dsimp only)
  (repeat' split) <;> simp

@[simp] theorem playStream_record (st : Stream) (a : Ask) (s : State) :
    (playStream st a s).capture.record = s.capture.record := by
  unfold playStream
  (try dsimp only)
  (repeat' split) <;> simp

@[simp] theorem pauseStream_memory (st : Stream) (a : Ask) (s : State) :
    (pauseStream st a s).memory = s.memory := by
  unfold pauseStream
  (try dsimp only)
  (repeat' split) <;> simp

@[simp] theorem pauseStream_pending (st : Stream) (a : Ask) (s : State) :
    (pauseStream st a s).pending = s.pending := by
  unfold pauseStream
  (try dsimp only)
  (repeat' split) <;> simp

@[simp] theorem pauseStream_port (st : Stream) (a : Ask) (s : State) :
    (pauseStream st a s).port = s.port := by
  unfold pauseStream
  (try dsimp only)
  (repeat' split) <;> simp

@[simp] theorem pauseStream_record (st : Stream) (a : Ask) (s : State) :
    (pauseStream st a s).capture.record = s.capture.record := by
  unfold pauseStream
  (try dsimp only)
  (repeat' split) <;> simp

@[simp] theorem takeStreamAsk_memory (st : Stream) (a : Ask) (s : State) :
    (takeStreamAsk st a s).memory = s.memory := by
  unfold takeStreamAsk
  (try dsimp only)
  (repeat' split) <;> simp

@[simp] theorem takeStreamAsk_pending (st : Stream) (a : Ask) (s : State) :
    (takeStreamAsk st a s).pending = s.pending := by
  unfold takeStreamAsk
  (try dsimp only)
  (repeat' split) <;> simp

@[simp] theorem takeStreamAsk_port (st : Stream) (a : Ask) (s : State) :
    (takeStreamAsk st a s).port = s.port := by
  unfold takeStreamAsk
  (try dsimp only)
  (repeat' split) <;> simp

@[simp] theorem takeStreamAsk_record (st : Stream) (a : Ask) (s : State) :
    (takeStreamAsk st a s).capture.record = s.capture.record := by
  unfold takeStreamAsk
  (try dsimp only)
  (repeat' split) <;> simp

@[simp] theorem assembleBlock_memory (st : Stream) (s : State) :
    (assembleBlock st s).memory = s.memory := by
  unfold assembleBlock
  (try dsimp only)
  (repeat' split) <;> simp

@[simp] theorem assembleBlock_pending (st : Stream) (s : State) :
    (assembleBlock st s).pending = s.pending := by
  unfold assembleBlock
  (try dsimp only)
  (repeat' split) <;> simp

@[simp] theorem assembleBlock_port (st : Stream) (s : State) :
    (assembleBlock st s).port = s.port := by
  unfold assembleBlock
  (try dsimp only)
  (repeat' split) <;> simp

@[simp] theorem assembleBlock_record (st : Stream) (s : State) :
    (assembleBlock st s).capture.record = s.capture.record := by
  unfold assembleBlock
  (try dsimp only)
  (repeat' split) <;> simp

@[simp] theorem releaseDone_memory (st : Stream) (s : State) :
    (releaseDone st s).memory = s.memory := by
  unfold releaseDone
  (try dsimp only)
  (repeat' split) <;> simp

@[simp] theorem releaseDone_pending (st : Stream) (s : State) :
    (releaseDone st s).pending = s.pending := by
  unfold releaseDone
  (try dsimp only)
  (repeat' split) <;> simp

@[simp] theorem releaseDone_port (st : Stream) (s : State) :
    (releaseDone st s).port = s.port := by
  unfold releaseDone
  (try dsimp only)
  (repeat' split) <;> simp

@[simp] theorem releaseDone_record (st : Stream) (s : State) :
    (releaseDone st s).capture.record = s.capture.record := by
  unfold releaseDone
  (try dsimp only)
  (repeat' split) <;> simp

@[simp] theorem prime_memory (st : Stream) (s : State) :
    (prime st s).memory = s.memory := by
  unfold prime
  (try dsimp only)
  (repeat' split) <;> simp

@[simp] theorem prime_pending (st : Stream) (s : State) :
    (prime st s).pending = s.pending := by
  unfold prime
  (try dsimp only)
  (repeat' split) <;> simp

@[simp] theorem prime_port (st : Stream) (s : State) :
    (prime st s).port = s.port := by
  unfold prime
  (try dsimp only)
  (repeat' split) <;> simp

@[simp] theorem prime_record (st : Stream) (s : State) :
    (prime st s).capture.record = s.capture.record := by
  unfold prime
  (try dsimp only)
  (repeat' split) <;> simp

@[simp] theorem unstarve_memory (st : Stream) (s : State) :
    (unstarve st s).memory = s.memory := by
  unfold unstarve
  (try dsimp only)
  (repeat' split) <;> simp

@[simp] theorem unstarve_pending (st : Stream) (s : State) :
    (unstarve st s).pending = s.pending := by
  unfold unstarve
  (try dsimp only)
  (repeat' split) <;> simp

@[simp] theorem unstarve_port (st : Stream) (s : State) :
    (unstarve st s).port = s.port := by
  unfold unstarve
  (try dsimp only)
  (repeat' split) <;> simp

@[simp] theorem unstarve_record (st : Stream) (s : State) :
    (unstarve st s).capture.record = s.capture.record := by
  unfold unstarve
  (try dsimp only)
  (repeat' split) <;> simp

@[simp] theorem nextBlock_memory (st : Stream) (s : State) :
    (nextBlock st s).memory = s.memory := by
  unfold nextBlock
  (try dsimp only)
  (repeat' split) <;> simp

@[simp] theorem nextBlock_pending (st : Stream) (s : State) :
    (nextBlock st s).pending = s.pending := by
  unfold nextBlock
  (try dsimp only)
  (repeat' split) <;> simp

@[simp] theorem nextBlock_port (st : Stream) (s : State) :
    (nextBlock st s).port = s.port := by
  unfold nextBlock
  (try dsimp only)
  (repeat' split) <;> simp

@[simp] theorem nextBlock_record (st : Stream) (s : State) :
    (nextBlock st s).capture.record = s.capture.record := by
  unfold nextBlock
  (try dsimp only)
  (repeat' split) <;> simp

@[simp] theorem releaseBoth_memory (s : State) :
    (releaseBoth s).memory = s.memory := by
  rfl

@[simp] theorem releaseBoth_pending (s : State) :
    (releaseBoth s).pending = s.pending := by
  rfl

@[simp] theorem releaseBoth_port (s : State) :
    (releaseBoth s).port = s.port := by
  rfl

@[simp] theorem releaseBoth_record (s : State) :
    (releaseBoth s).capture.record = s.capture.record := rfl

@[simp] theorem streamBlockEnd_memory (st : Stream) (s : State) :
    (streamBlockEnd st s).memory = s.memory := by
  unfold streamBlockEnd
  (try dsimp only)
  (repeat' split) <;> simp

@[simp] theorem streamBlockEnd_pending (st : Stream) (s : State) :
    (streamBlockEnd st s).pending = s.pending := by
  unfold streamBlockEnd
  (try dsimp only)
  (repeat' split) <;> simp

@[simp] theorem streamBlockEnd_port (st : Stream) (s : State) :
    (streamBlockEnd st s).port = s.port := by
  unfold streamBlockEnd
  (try dsimp only)
  (repeat' split) <;> simp

@[simp] theorem streamBlockEnd_record (st : Stream) (s : State) :
    (streamBlockEnd st s).capture.record = s.capture.record := by
  unfold streamBlockEnd
  (try dsimp only)
  (repeat' split) <;> simp

@[simp] theorem countUnderrun_memory (st : Stream) (d : Display) (s : State) :
    (countUnderrun st d s).memory = s.memory := by
  unfold countUnderrun
  (try dsimp only)
  (repeat' split) <;> simp

@[simp] theorem countUnderrun_pending (st : Stream) (d : Display) (s : State) :
    (countUnderrun st d s).pending = s.pending := by
  unfold countUnderrun
  (try dsimp only)
  (repeat' split) <;> simp

@[simp] theorem countUnderrun_port (st : Stream) (d : Display) (s : State) :
    (countUnderrun st d s).port = s.port := by
  unfold countUnderrun
  (try dsimp only)
  (repeat' split) <;> simp

@[simp] theorem countUnderrun_record (st : Stream) (d : Display) (s : State) :
    (countUnderrun st d s).capture.record = s.capture.record := by
  unfold countUnderrun
  (try dsimp only)
  (repeat' split) <;> simp

@[simp] theorem selectCard_memory (st : Stream) (d : Display) (shows : Bool) (lead : Nat) (s : State) :
    (selectCard st d shows lead s).memory = s.memory := by
  unfold selectCard
  (try dsimp only)
  (repeat' split) <;> simp

@[simp] theorem selectCard_pending (st : Stream) (d : Display) (shows : Bool) (lead : Nat) (s : State) :
    (selectCard st d shows lead s).pending = s.pending := by
  unfold selectCard
  (try dsimp only)
  (repeat' split) <;> simp

@[simp] theorem selectCard_port (st : Stream) (d : Display) (shows : Bool) (lead : Nat) (s : State) :
    (selectCard st d shows lead s).port = s.port := by
  unfold selectCard
  (try dsimp only)
  (repeat' split) <;> simp

@[simp] theorem selectCard_record (st : Stream) (d : Display) (shows : Bool) (lead : Nat) (s : State) :
    (selectCard st d shows lead s).capture.record = s.capture.record := by
  unfold selectCard
  (try dsimp only)
  (repeat' split) <;> simp

@[simp] theorem streamFrameStart_memory (st : Stream) (d : Display) (shows : Bool) (lead : Nat) (s : State) :
    (streamFrameStart st d shows lead s).memory = s.memory := by
  unfold streamFrameStart
  (try dsimp only)
  (repeat' split) <;> simp

@[simp] theorem streamFrameStart_pending (st : Stream) (d : Display) (shows : Bool) (lead : Nat) (s : State) :
    (streamFrameStart st d shows lead s).pending = s.pending := by
  unfold streamFrameStart
  (try dsimp only)
  (repeat' split) <;> simp

@[simp] theorem streamFrameStart_port (st : Stream) (d : Display) (shows : Bool) (lead : Nat) (s : State) :
    (streamFrameStart st d shows lead s).port = s.port := by
  unfold streamFrameStart
  (try dsimp only)
  (repeat' split) <;> simp

@[simp] theorem streamFrameStart_record (st : Stream) (d : Display) (shows : Bool) (lead : Nat) (s : State) :
    (streamFrameStart st d shows lead s).capture.record = s.capture.record := by
  unfold streamFrameStart
  (try dsimp only)
  (repeat' split) <;> simp

@[simp] theorem samplesDone_memory (st : Stream) (serial place : Nat) (bytes : List Byte) (s : State) :
    (samplesDone st serial place bytes s).memory = s.memory := by
  unfold samplesDone
  (try dsimp only)
  (repeat' split) <;> simp

@[simp] theorem samplesDone_pending (st : Stream) (serial place : Nat) (bytes : List Byte) (s : State) :
    (samplesDone st serial place bytes s).pending = s.pending := by
  unfold samplesDone
  (try dsimp only)
  (repeat' split) <;> simp

@[simp] theorem samplesDone_port (st : Stream) (serial place : Nat) (bytes : List Byte) (s : State) :
    (samplesDone st serial place bytes s).port = s.port := by
  unfold samplesDone
  (try dsimp only)
  (repeat' split) <;> simp

@[simp] theorem samplesDone_record (st : Stream) (serial place : Nat) (bytes : List Byte) (s : State) :
    (samplesDone st serial place bytes s).capture.record = s.capture.record := by
  unfold samplesDone
  (try dsimp only)
  (repeat' split) <;> simp

/-! ## Machine/Display.lean -/

@[simp] theorem beginCandidate_memory (d : Display) (bk : Bank) (count : Word) (s : State) :
    (beginCandidate d bk count s).memory = s.memory := by
  unfold beginCandidate
  (try dsimp only)
  (repeat' split) <;> simp

@[simp] theorem beginCandidate_pending (d : Display) (bk : Bank) (count : Word) (s : State) :
    (beginCandidate d bk count s).pending = s.pending := by
  unfold beginCandidate
  (try dsimp only)
  (repeat' split) <;> simp

@[simp] theorem beginCandidate_port (d : Display) (bk : Bank) (count : Word) (s : State) :
    (beginCandidate d bk count s).port = s.port := by
  unfold beginCandidate
  (try dsimp only)
  (repeat' split) <;> simp

@[simp] theorem beginCandidate_record (d : Display) (bk : Bank) (count : Word) (s : State) :
    (beginCandidate d bk count s).capture.record = s.capture.record := by
  unfold beginCandidate
  (try dsimp only)
  (repeat' split) <;> simp

@[simp] theorem handSelect_memory (d : Display) (bytes : List Byte) (s : State) :
    (handSelect d bytes s).memory = s.memory := by
  unfold handSelect
  (try dsimp only)
  (repeat' split) <;> simp

@[simp] theorem handSelect_pending (d : Display) (bytes : List Byte) (s : State) :
    (handSelect d bytes s).pending = s.pending := by
  unfold handSelect
  (try dsimp only)
  (repeat' split) <;> simp

@[simp] theorem handSelect_port (d : Display) (bytes : List Byte) (s : State) :
    (handSelect d bytes s).port = s.port := by
  unfold handSelect
  (try dsimp only)
  (repeat' split) <;> simp

@[simp] theorem handSelect_record (d : Display) (bytes : List Byte) (s : State) :
    (handSelect d bytes s).capture.record = s.capture.record := by
  unfold handSelect
  (try dsimp only)
  (repeat' split) <;> simp

@[simp] theorem refuseBank_memory (d : Display) (f : BankFault) (k : AreaFaultKind) (s : State) :
    (refuseBank d f k s).memory = s.memory := by
  unfold refuseBank
  (try dsimp only)
  (repeat' split) <;> simp

@[simp] theorem refuseBank_pending (d : Display) (f : BankFault) (k : AreaFaultKind) (s : State) :
    (refuseBank d f k s).pending = s.pending := by
  unfold refuseBank
  (try dsimp only)
  (repeat' split) <;> simp

@[simp] theorem refuseBank_port (d : Display) (f : BankFault) (k : AreaFaultKind) (s : State) :
    (refuseBank d f k s).port = s.port := by
  unfold refuseBank
  (try dsimp only)
  (repeat' split) <;> simp

@[simp] theorem refuseBank_record (d : Display) (f : BankFault) (k : AreaFaultKind) (s : State) :
    (refuseBank d f k s).capture.record = s.capture.record := by
  unfold refuseBank
  (try dsimp only)
  (repeat' split) <;> simp

@[simp] theorem checkCandidate_memory (d : Display) (bk : Bank) (count : Word) (n : Nat) (bytes : List Byte) (s : State) :
    (checkCandidate d bk count n bytes s).memory = s.memory := by
  unfold checkCandidate
  (try dsimp only)
  (repeat' split) <;> simp

@[simp] theorem checkCandidate_pending (d : Display) (bk : Bank) (count : Word) (n : Nat) (bytes : List Byte) (s : State) :
    (checkCandidate d bk count n bytes s).pending = s.pending := by
  unfold checkCandidate
  (try dsimp only)
  (repeat' split) <;> simp

@[simp] theorem checkCandidate_port (d : Display) (bk : Bank) (count : Word) (n : Nat) (bytes : List Byte) (s : State) :
    (checkCandidate d bk count n bytes s).port = s.port := by
  unfold checkCandidate
  (try dsimp only)
  (repeat' split) <;> simp

@[simp] theorem checkCandidate_record (d : Display) (bk : Bank) (count : Word) (n : Nat) (bytes : List Byte) (s : State) :
    (checkCandidate d bk count n bytes s).capture.record = s.capture.record := by
  unfold checkCandidate
  (try dsimp only)
  (repeat' split) <;> simp

@[simp] theorem makeEntryReads_memory (d : Display) (bk : Bank) (serial n : Nat) (s : State) :
    (makeEntryReads d bk serial n s).memory = s.memory := by
  unfold makeEntryReads
  dsimp only
  refine foldl_keeps State.memory _ ?_ _ _
  intros
  rfl

@[simp] theorem makeEntryReads_pending (d : Display) (bk : Bank) (serial n : Nat) (s : State) :
    (makeEntryReads d bk serial n s).pending = s.pending := by
  unfold makeEntryReads
  dsimp only
  refine foldl_keeps State.pending _ ?_ _ _
  intros
  rfl

@[simp] theorem makeEntryReads_port (d : Display) (bk : Bank) (serial n : Nat) (s : State) :
    (makeEntryReads d bk serial n s).port = s.port := by
  unfold makeEntryReads
  dsimp only
  refine foldl_keeps State.port _ ?_ _ _
  intros
  rfl

@[simp] theorem makeEntryReads_record (d : Display) (bk : Bank) (serial n : Nat) (s : State) :
    (makeEntryReads d bk serial n s).capture.record = s.capture.record := by
  unfold makeEntryReads
  (try dsimp only)
  (repeat' split) <;> simp

@[simp] theorem bankCountDone_memory (d : Display) (serial : Nat) (bytes : List Byte) (s : State) :
    (bankCountDone d serial bytes s).memory = s.memory := by
  unfold bankCountDone
  (try dsimp only)
  (repeat' split) <;> simp

@[simp] theorem bankCountDone_pending (d : Display) (serial : Nat) (bytes : List Byte) (s : State) :
    (bankCountDone d serial bytes s).pending = s.pending := by
  unfold bankCountDone
  (try dsimp only)
  (repeat' split) <;> simp

@[simp] theorem bankCountDone_port (d : Display) (serial : Nat) (bytes : List Byte) (s : State) :
    (bankCountDone d serial bytes s).port = s.port := by
  unfold bankCountDone
  (try dsimp only)
  (repeat' split) <;> simp

@[simp] theorem bankCountDone_record (d : Display) (serial : Nat) (bytes : List Byte) (s : State) :
    (bankCountDone d serial bytes s).capture.record = s.capture.record := by
  unfold bankCountDone
  (try dsimp only)
  (repeat' split) <;> simp

@[simp] theorem bankEntriesDone_memory (d : Display) (serial offset : Nat) (bytes : List Byte) (s : State) :
    (bankEntriesDone d serial offset bytes s).memory = s.memory := by
  unfold bankEntriesDone
  (try dsimp only)
  (repeat' split) <;> simp

@[simp] theorem bankEntriesDone_pending (d : Display) (serial offset : Nat) (bytes : List Byte) (s : State) :
    (bankEntriesDone d serial offset bytes s).pending = s.pending := by
  unfold bankEntriesDone
  (try dsimp only)
  (repeat' split) <;> simp

@[simp] theorem bankEntriesDone_port (d : Display) (serial offset : Nat) (bytes : List Byte) (s : State) :
    (bankEntriesDone d serial offset bytes s).port = s.port := by
  unfold bankEntriesDone
  (try dsimp only)
  (repeat' split) <;> simp

@[simp] theorem bankEntriesDone_record (d : Display) (serial offset : Nat) (bytes : List Byte) (s : State) :
    (bankEntriesDone d serial offset bytes s).capture.record = s.capture.record := by
  unfold bankEntriesDone
  (try dsimp only)
  (repeat' split) <;> simp

@[simp] theorem bankReadFault_memory (d : Display) (serial : Nat) (s : State) :
    (bankReadFault d serial s).memory = s.memory := by
  unfold bankReadFault
  (try dsimp only)
  (repeat' split) <;> simp

@[simp] theorem bankReadFault_pending (d : Display) (serial : Nat) (s : State) :
    (bankReadFault d serial s).pending = s.pending := by
  unfold bankReadFault
  (try dsimp only)
  (repeat' split) <;> simp

@[simp] theorem bankReadFault_port (d : Display) (serial : Nat) (s : State) :
    (bankReadFault d serial s).port = s.port := by
  unfold bankReadFault
  (try dsimp only)
  (repeat' split) <;> simp

@[simp] theorem bankReadFault_record (d : Display) (serial : Nat) (s : State) :
    (bankReadFault d serial s).capture.record = s.capture.record := by
  unfold bankReadFault
  (try dsimp only)
  (repeat' split) <;> simp

@[simp] theorem latch_memory (d : Display) (s : State) :
    (latch d s).memory = s.memory := by
  unfold latch
  (try dsimp only)
  (repeat' split) <;> simp

@[simp] theorem latch_pending (d : Display) (s : State) :
    (latch d s).pending = s.pending := by
  unfold latch
  (try dsimp only)
  (repeat' split) <;> simp

@[simp] theorem latch_port (d : Display) (s : State) :
    (latch d s).port = s.port := by
  unfold latch
  (try dsimp only)
  (repeat' split) <;> simp

@[simp] theorem latch_record (d : Display) (s : State) :
    (latch d s).capture.record = s.capture.record := by
  unfold latch
  (try dsimp only)
  (repeat' split) <;> simp

@[simp] theorem beginTiming_memory (d : Display) (a : Ask) (s : State) :
    (beginTiming d a s).memory = s.memory := by
  rfl

@[simp] theorem beginTiming_pending (d : Display) (a : Ask) (s : State) :
    (beginTiming d a s).pending = s.pending := by
  rfl

@[simp] theorem beginTiming_port (d : Display) (a : Ask) (s : State) :
    (beginTiming d a s).port = s.port := by
  rfl

@[simp] theorem beginTiming_record (d : Display) (a : Ask) (s : State) :
    (beginTiming d a s).capture.record = s.capture.record := by
  unfold beginTiming
  (try dsimp only)
  (repeat' split) <;> simp

@[simp] theorem takeDisplayAsk_memory (d : Display) (a : Ask) (s : State) :
    (takeDisplayAsk d a s).memory = s.memory := by
  unfold takeDisplayAsk
  (try dsimp only)
  (repeat' split) <;> simp

@[simp] theorem takeDisplayAsk_pending (d : Display) (a : Ask) (s : State) :
    (takeDisplayAsk d a s).pending = s.pending := by
  unfold takeDisplayAsk
  (try dsimp only)
  (repeat' split) <;> simp

@[simp] theorem takeDisplayAsk_port (d : Display) (a : Ask) (s : State) :
    (takeDisplayAsk d a s).port = s.port := by
  unfold takeDisplayAsk
  (try dsimp only)
  (repeat' split) <;> simp

@[simp] theorem takeDisplayAsk_record (d : Display) (a : Ask) (s : State) :
    (takeDisplayAsk d a s).capture.record = s.capture.record := by
  unfold takeDisplayAsk
  (try dsimp only)
  (repeat' split) <;> simp

@[simp] theorem timingDone_memory (d : Display) (bytes : List Byte) (s : State) :
    (timingDone d bytes s).memory = s.memory := by
  unfold timingDone
  (try dsimp only)
  (repeat' split) <;> simp

@[simp] theorem timingDone_pending (d : Display) (bytes : List Byte) (s : State) :
    (timingDone d bytes s).pending = s.pending := by
  unfold timingDone
  (try dsimp only)
  (repeat' split) <;> simp

@[simp] theorem timingDone_port (d : Display) (bytes : List Byte) (s : State) :
    (timingDone d bytes s).port = s.port := by
  unfold timingDone
  (try dsimp only)
  (repeat' split) <;> simp

@[simp] theorem timingDone_record (d : Display) (bytes : List Byte) (s : State) :
    (timingDone d bytes s).capture.record = s.capture.record := by
  unfold timingDone
  (try dsimp only)
  (repeat' split) <;> simp

@[simp] theorem giveUpAsk_memory (n : Nat) (s : State) :
    (giveUpAsk n s).memory = s.memory := by
  rfl

@[simp] theorem giveUpAsk_pending (n : Nat) (s : State) :
    (giveUpAsk n s).pending = s.pending := by
  rfl

@[simp] theorem giveUpAsk_port (n : Nat) (s : State) :
    (giveUpAsk n s).port = s.port := by
  rfl

@[simp] theorem giveUpAsk_record (n : Nat) (s : State) :
    (giveUpAsk n s).capture.record = s.capture.record := by
  unfold giveUpAsk
  (try dsimp only)
  (repeat' split) <;> simp

@[simp] theorem takeRows_memory (s : State) :
    (takeRows s).memory = s.memory := by
  unfold takeRows
  (try dsimp only)
  (repeat' split) <;> simp

@[simp] theorem takeRows_pending (s : State) :
    (takeRows s).pending = s.pending := by
  unfold takeRows
  (try dsimp only)
  (repeat' split) <;> simp

@[simp] theorem takeRows_port (s : State) :
    (takeRows s).port = s.port := by
  unfold takeRows
  (try dsimp only)
  (repeat' split) <;> simp

@[simp] theorem takeRows_record (s : State) :
    (takeRows s).capture.record = s.capture.record := by
  unfold takeRows
  (try dsimp only)
  (repeat' split) <;> simp

@[simp] theorem endFrame_memory (d : Display) (s : State) :
    (endFrame d s).memory = s.memory := by
  unfold endFrame
  (try dsimp only)
  (repeat' split) <;> simp

@[simp] theorem endFrame_pending (d : Display) (s : State) :
    (endFrame d s).pending = s.pending := by
  unfold endFrame
  (try dsimp only)
  (repeat' split) <;> simp

@[simp] theorem endFrame_port (d : Display) (s : State) :
    (endFrame d s).port = s.port := by
  unfold endFrame
  (try dsimp only)
  (repeat' split) <;> simp

@[simp] theorem endFrame_record (d : Display) (s : State) :
    (endFrame d s).capture.record = s.capture.record := by
  unfold endFrame
  (try dsimp only)
  (repeat' split) <;> simp

@[simp] theorem frameEndOf_memory (d : Display) (s : State) :
    (frameEndOf d s).memory = s.memory := by
  unfold frameEndOf
  (try dsimp only)
  (repeat' split) <;> simp

@[simp] theorem frameEndOf_pending (d : Display) (s : State) :
    (frameEndOf d s).pending = s.pending := by
  unfold frameEndOf
  (try dsimp only)
  (repeat' split) <;> simp

@[simp] theorem frameEndOf_port (d : Display) (s : State) :
    (frameEndOf d s).port = s.port := by
  unfold frameEndOf
  (try dsimp only)
  (repeat' split) <;> simp

@[simp] theorem frameEndOf_record (d : Display) (s : State) :
    (frameEndOf d s).capture.record = s.capture.record := by
  unfold frameEndOf
  (try dsimp only)
  (repeat' split) <;> simp

@[simp] theorem pollDisplays_memory (ds : List Display) (s : State) :
    (pollDisplays ds s).memory = s.memory := by
  unfold pollDisplays
  (try dsimp only)
  (repeat' split) <;> simp

@[simp] theorem pollDisplays_pending (ds : List Display) (s : State) :
    (pollDisplays ds s).pending = s.pending := by
  unfold pollDisplays
  (try dsimp only)
  (repeat' split) <;> simp

@[simp] theorem pollDisplays_port (ds : List Display) (s : State) :
    (pollDisplays ds s).port = s.port := by
  unfold pollDisplays
  (try dsimp only)
  (repeat' split) <;> simp

@[simp] theorem pollDisplays_record (ds : List Display) (s : State) :
    (pollDisplays ds s).capture.record = s.capture.record := by
  unfold pollDisplays
  (try dsimp only)
  (repeat' split) <;> simp

@[simp] theorem frontModeStart_memory (locked : Bool) (s : State) :
    (frontModeStart locked s).memory = s.memory := by
  unfold frontModeStart
  (try dsimp only)
  (repeat' split) <;> simp

@[simp] theorem frontModeStart_pending (locked : Bool) (s : State) :
    (frontModeStart locked s).pending = s.pending := by
  unfold frontModeStart
  (try dsimp only)
  (repeat' split) <;> simp

@[simp] theorem frontModeStart_port (locked : Bool) (s : State) :
    (frontModeStart locked s).port = s.port := by
  unfold frontModeStart
  (try dsimp only)
  (repeat' split) <;> simp

@[simp] theorem frontModeStart_record (locked : Bool) (s : State) :
    (frontModeStart locked s).capture.record = s.capture.record := by
  unfold frontModeStart
  (try dsimp only)
  (repeat' split) <;> simp

@[simp] theorem setBlank_memory (d : Display) (s : State) :
    (setBlank d s).memory = s.memory := by
  unfold setBlank
  (try dsimp only)
  (repeat' split) <;> simp

@[simp] theorem setBlank_pending (d : Display) (s : State) :
    (setBlank d s).pending = s.pending := by
  unfold setBlank
  (try dsimp only)
  (repeat' split) <;> simp

@[simp] theorem setBlank_port (d : Display) (s : State) :
    (setBlank d s).port = s.port := by
  unfold setBlank
  (try dsimp only)
  (repeat' split) <;> simp

@[simp] theorem setBlank_record (d : Display) (s : State) :
    (setBlank d s).capture.record = s.capture.record := by
  unfold setBlank
  (try dsimp only)
  (repeat' split) <;> simp

@[simp] theorem filmStart_memory (ds : List Display) (s : State) :
    (filmStart ds s).memory = s.memory := by
  unfold filmStart
  (try dsimp only)
  (repeat' split) <;> simp

@[simp] theorem filmStart_pending (ds : List Display) (s : State) :
    (filmStart ds s).pending = s.pending := by
  unfold filmStart
  (try dsimp only)
  (repeat' split) <;> simp

@[simp] theorem filmStart_port (ds : List Display) (s : State) :
    (filmStart ds s).port = s.port := by
  unfold filmStart
  (try dsimp only)
  (repeat' split) <;> simp

@[simp] theorem filmStart_record (ds : List Display) (s : State) :
    (filmStart ds s).capture.record = s.capture.record := by
  unfold filmStart
  (try dsimp only)
  (repeat' split) <;> simp

@[simp] theorem beginTwin_memory (x : Shared) (s : State) :
    (beginTwin x s).memory = s.memory := by
  unfold beginTwin
  (try dsimp only)
  (repeat' split) <;> simp

@[simp] theorem beginTwin_pending (x : Shared) (s : State) :
    (beginTwin x s).pending = s.pending := by
  unfold beginTwin
  (try dsimp only)
  (repeat' split) <;> simp

@[simp] theorem beginTwin_port (x : Shared) (s : State) :
    (beginTwin x s).port = s.port := by
  unfold beginTwin
  (try dsimp only)
  (repeat' split) <;> simp

@[simp] theorem beginTwin_record (x : Shared) (s : State) :
    (beginTwin x s).capture.record = s.capture.record := by
  unfold beginTwin
  (try dsimp only)
  (repeat' split) <;> simp

@[simp] theorem endTwin_memory (s : State) :
    (endTwin s).memory = s.memory := by
  rfl

@[simp] theorem endTwin_pending (s : State) :
    (endTwin s).pending = s.pending := by
  rfl

@[simp] theorem endTwin_port (s : State) :
    (endTwin s).port = s.port := by
  rfl

@[simp] theorem endTwin_record (s : State) :
    (endTwin s).capture.record = s.capture.record := rfl

@[simp] theorem decideTwin_memory (s : State) :
    (decideTwin s).memory = s.memory := by
  unfold decideTwin
  (try dsimp only)
  (repeat' split) <;> simp

@[simp] theorem decideTwin_pending (s : State) :
    (decideTwin s).pending = s.pending := by
  unfold decideTwin
  (try dsimp only)
  (repeat' split) <;> simp

@[simp] theorem decideTwin_port (s : State) :
    (decideTwin s).port = s.port := by
  unfold decideTwin
  (try dsimp only)
  (repeat' split) <;> simp

@[simp] theorem decideTwin_record (s : State) :
    (decideTwin s).capture.record = s.capture.record := by
  unfold decideTwin
  (try dsimp only)
  (repeat' split) <;> simp

@[simp] theorem reportCamera_memory (s : State) :
    (reportCamera s).memory = s.memory := by
  unfold reportCamera
  (try dsimp only)
  (repeat' split) <;> simp

@[simp] theorem reportCamera_pending (s : State) :
    (reportCamera s).pending = s.pending := by
  unfold reportCamera
  (try dsimp only)
  (repeat' split) <;> simp

@[simp] theorem reportCamera_port (s : State) :
    (reportCamera s).port = s.port := by
  unfold reportCamera
  (try dsimp only)
  (repeat' split) <;> simp

@[simp] theorem reportCamera_record (s : State) :
    (reportCamera s).capture.record = s.capture.record := by
  unfold reportCamera
  (try dsimp only)
  (repeat' split) <;> simp

@[simp] theorem setReadingStore_memory (layers : List Layer) (s : State) :
    (setReadingStore layers s).memory = s.memory := by
  unfold setReadingStore
  (try dsimp only)
  (repeat' split) <;> simp

@[simp] theorem setReadingStore_pending (layers : List Layer) (s : State) :
    (setReadingStore layers s).pending = s.pending := by
  unfold setReadingStore
  (try dsimp only)
  (repeat' split) <;> simp

@[simp] theorem setReadingStore_port (layers : List Layer) (s : State) :
    (setReadingStore layers s).port = s.port := by
  unfold setReadingStore
  (try dsimp only)
  (repeat' split) <;> simp

@[simp] theorem setReadingStore_record (layers : List Layer) (s : State) :
    (setReadingStore layers s).capture.record = s.capture.record := by
  unfold setReadingStore
  (try dsimp only)
  (repeat' split) <;> simp

@[simp] theorem makeFrame_memory (direct : Option DirectFrame) (d : Display) (s : State) :
    (makeFrame direct d s).memory = s.memory := by
  unfold makeFrame
  (try dsimp only)
  (repeat' split) <;> simp

@[simp] theorem makeFrame_pending (direct : Option DirectFrame) (d : Display) (s : State) :
    (makeFrame direct d s).pending = s.pending := by
  unfold makeFrame
  (try dsimp only)
  (repeat' split) <;> simp

@[simp] theorem makeFrame_port (direct : Option DirectFrame) (d : Display) (s : State) :
    (makeFrame direct d s).port = s.port := by
  unfold makeFrame
  (try dsimp only)
  (repeat' split) <;> simp

@[simp] theorem makeFrame_record (direct : Option DirectFrame) (d : Display) (s : State) :
    (makeFrame direct d s).capture.record = s.capture.record := by
  unfold makeFrame
  (try dsimp only)
  (repeat' split) <;> simp

@[simp] theorem startFrames_memory (ds : List Display) (direct : Option DirectFrame) (s : State) :
    (startFrames ds direct s).memory = s.memory := by
  have h : ∀ (f : Display → State → State), (∀ d s, (f d s).memory = s.memory) → ∀ (l : List Display) (s : State),
      (l.foldl (fun s d => f d s) s).memory = s.memory := fun f hf l s => foldl_keeps State.memory _ (fun s d => hf d s) l s
  unfold startFrames
  dsimp only
  rw [h (makeFrame direct) (fun d s => makeFrame_memory direct d s)]
  repeat' split
  all_goals
    simp [h setBlank (fun d s => setBlank_memory d s), h latch (fun d s => latch_memory d s),
      h (fun d => State.onComposer d Composer.evaluate) (fun _ _ => rfl)]

@[simp] theorem startFrames_pending (ds : List Display) (direct : Option DirectFrame) (s : State) :
    (startFrames ds direct s).pending = s.pending := by
  have h : ∀ (f : Display → State → State), (∀ d s, (f d s).pending = s.pending) → ∀ (l : List Display) (s : State),
      (l.foldl (fun s d => f d s) s).pending = s.pending := fun f hf l s => foldl_keeps State.pending _ (fun s d => hf d s) l s
  unfold startFrames
  dsimp only
  rw [h (makeFrame direct) (fun d s => makeFrame_pending direct d s)]
  repeat' split
  all_goals
    simp [h setBlank (fun d s => setBlank_pending d s), h latch (fun d s => latch_pending d s),
      h (fun d => State.onComposer d Composer.evaluate) (fun _ _ => rfl)]

@[simp] theorem startFrames_port (ds : List Display) (direct : Option DirectFrame) (s : State) :
    (startFrames ds direct s).port = s.port := by
  have h : ∀ (f : Display → State → State), (∀ d s, (f d s).port = s.port) → ∀ (l : List Display) (s : State),
      (l.foldl (fun s d => f d s) s).port = s.port := fun f hf l s => foldl_keeps State.port _ (fun s d => hf d s) l s
  unfold startFrames
  dsimp only
  rw [h (makeFrame direct) (fun d s => makeFrame_port direct d s)]
  repeat' split
  all_goals
    simp [h setBlank (fun d s => setBlank_port d s), h latch (fun d s => latch_port d s),
      h (fun d => State.onComposer d Composer.evaluate) (fun _ _ => rfl)]

@[simp] theorem startFrames_record (ds : List Display) (direct : Option DirectFrame) (s : State) :
    (startFrames ds direct s).capture.record = s.capture.record := by
  have h : ∀ (f : Display → State → State), (∀ d s, (f d s).capture.record = s.capture.record) → ∀ (l : List Display) (s : State),
      (l.foldl (fun s d => f d s) s).capture.record = s.capture.record := fun f hf l s => foldl_keeps (fun s : State => s.capture.record) _ (fun s d => hf d s) l s
  unfold startFrames
  dsimp only
  rw [h (makeFrame direct) (fun d s => makeFrame_record direct d s)]
  repeat' split
  all_goals
    simp [h setBlank (fun d s => setBlank_record d s), h latch (fun d s => latch_record d s),
      h (fun d => State.onComposer d Composer.evaluate) (fun _ _ => rfl)]

@[simp] theorem startFront_memory (direct : Option DirectFrame) (s : State) :
    (startFront direct s).memory = s.memory := by
  unfold startFront
  (try dsimp only)
  (repeat' split) <;> simp

@[simp] theorem startFront_pending (direct : Option DirectFrame) (s : State) :
    (startFront direct s).pending = s.pending := by
  unfold startFront
  (try dsimp only)
  (repeat' split) <;> simp

@[simp] theorem startFront_port (direct : Option DirectFrame) (s : State) :
    (startFront direct s).port = s.port := by
  unfold startFront
  (try dsimp only)
  (repeat' split) <;> simp

@[simp] theorem startFront_record (direct : Option DirectFrame) (s : State) :
    (startFront direct s).capture.record = s.capture.record := by
  unfold startFront
  (try dsimp only)
  (repeat' split) <;> simp

@[simp] theorem startPair_memory (s : State) :
    (startPair s).memory = s.memory := by
  unfold startPair
  (try dsimp only)
  (repeat' split) <;> simp

@[simp] theorem startPair_pending (s : State) :
    (startPair s).pending = s.pending := by
  unfold startPair
  (try dsimp only)
  (repeat' split) <;> simp

@[simp] theorem startPair_port (s : State) :
    (startPair s).port = s.port := by
  unfold startPair
  (try dsimp only)
  (repeat' split) <;> simp

@[simp] theorem startPair_record (s : State) :
    (startPair s).capture.record = s.capture.record := by
  unfold startPair
  (try dsimp only)
  (repeat' split) <;> simp

@[simp] theorem stopForPair_memory (s : State) :
    (stopForPair s).memory = s.memory := by
  unfold stopForPair
  (try dsimp only)
  (repeat' split) <;> simp

@[simp] theorem stopForPair_pending (s : State) :
    (stopForPair s).pending = s.pending := by
  unfold stopForPair
  (try dsimp only)
  (repeat' split) <;> simp

@[simp] theorem stopForPair_port (s : State) :
    (stopForPair s).port = s.port := by
  unfold stopForPair
  (try dsimp only)
  (repeat' split) <;> simp

@[simp] theorem stopForPair_record (s : State) :
    (stopForPair s).capture.record = s.capture.record := by
  unfold stopForPair
  (try dsimp only)
  (repeat' split) <;> simp

@[simp] theorem frameStartOf_memory (d : Display) (s : State) :
    (frameStartOf d s).memory = s.memory := by
  unfold frameStartOf
  (try dsimp only)
  (repeat' split) <;> simp

@[simp] theorem frameStartOf_pending (d : Display) (s : State) :
    (frameStartOf d s).pending = s.pending := by
  unfold frameStartOf
  (try dsimp only)
  (repeat' split) <;> simp

@[simp] theorem frameStartOf_port (d : Display) (s : State) :
    (frameStartOf d s).port = s.port := by
  unfold frameStartOf
  (try dsimp only)
  (repeat' split) <;> simp

@[simp] theorem frameStartOf_record (d : Display) (s : State) :
    (frameStartOf d s).capture.record = s.capture.record := by
  unfold frameStartOf
  (try dsimp only)
  (repeat' split) <;> simp

@[simp] theorem freeRunStart_memory (s : State) :
    (freeRunStart s).memory = s.memory := by
  unfold freeRunStart
  (try dsimp only)
  (repeat' split) <;> simp

@[simp] theorem freeRunStart_pending (s : State) :
    (freeRunStart s).pending = s.pending := by
  unfold freeRunStart
  (try dsimp only)
  (repeat' split) <;> simp

@[simp] theorem freeRunStart_port (s : State) :
    (freeRunStart s).port = s.port := by
  unfold freeRunStart
  (try dsimp only)
  (repeat' split) <;> simp

@[simp] theorem freeRunStart_record (s : State) :
    (freeRunStart s).capture.record = s.capture.record := by
  unfold freeRunStart
  (try dsimp only)
  (repeat' split) <;> simp

@[simp] theorem startDirectLine_memory (s : State) :
    (startDirectLine s).memory = s.memory := by
  unfold startDirectLine
  (try dsimp only)
  (repeat' split) <;> simp

@[simp] theorem startDirectLine_pending (s : State) :
    (startDirectLine s).pending = s.pending := by
  unfold startDirectLine
  (try dsimp only)
  (repeat' split) <;> simp

@[simp] theorem startDirectLine_port (s : State) :
    (startDirectLine s).port = s.port := by
  unfold startDirectLine
  (try dsimp only)
  (repeat' split) <;> simp

@[simp] theorem startDirectLine_record (s : State) :
    (startDirectLine s).capture.record = s.capture.record := by
  unfold startDirectLine
  (try dsimp only)
  (repeat' split) <;> simp

@[simp] theorem pruneTwin_memory (s : State) :
    (pruneTwin s).memory = s.memory := by
  unfold pruneTwin
  (try dsimp only)
  (repeat' split) <;> simp

@[simp] theorem pruneTwin_pending (s : State) :
    (pruneTwin s).pending = s.pending := by
  unfold pruneTwin
  (try dsimp only)
  (repeat' split) <;> simp

@[simp] theorem pruneTwin_port (s : State) :
    (pruneTwin s).port = s.port := by
  unfold pruneTwin
  (try dsimp only)
  (repeat' split) <;> simp

@[simp] theorem pruneTwin_record (s : State) :
    (pruneTwin s).capture.record = s.capture.record := by
  unfold pruneTwin
  (try dsimp only)
  (repeat' split) <;> simp

@[simp] theorem markTwinLate_memory (s : State) :
    (markTwinLate s).memory = s.memory := by
  unfold markTwinLate
  (try dsimp only)
  (repeat' split) <;> simp

@[simp] theorem markTwinLate_pending (s : State) :
    (markTwinLate s).pending = s.pending := by
  unfold markTwinLate
  (try dsimp only)
  (repeat' split) <;> simp

@[simp] theorem markTwinLate_port (s : State) :
    (markTwinLate s).port = s.port := by
  unfold markTwinLate
  (try dsimp only)
  (repeat' split) <;> simp

@[simp] theorem markTwinLate_record (s : State) :
    (markTwinLate s).capture.record = s.capture.record := by
  unfold markTwinLate
  (try dsimp only)
  (repeat' split) <;> simp

@[simp] theorem outputLine_memory (d : Display) (f : Frame) (s : State) :
    (outputLine d f s).memory = s.memory := by
  unfold outputLine
  (try dsimp only)
  (repeat' split) <;> simp

@[simp] theorem outputLine_pending (d : Display) (f : Frame) (s : State) :
    (outputLine d f s).pending = s.pending := by
  unfold outputLine
  (try dsimp only)
  (repeat' split) <;> simp

@[simp] theorem outputLine_port (d : Display) (f : Frame) (s : State) :
    (outputLine d f s).port = s.port := by
  unfold outputLine
  (try dsimp only)
  (repeat' split) <;> simp

@[simp] theorem outputLine_record (d : Display) (f : Frame) (s : State) :
    (outputLine d f s).capture.record = s.capture.record := by
  unfold outputLine
  (try dsimp only)
  (repeat' split) <;> simp

@[simp] theorem lineOutputOf_memory (d : Display) (s : State) :
    (lineOutputOf d s).memory = s.memory := by
  unfold lineOutputOf
  (try dsimp only)
  (repeat' split) <;> simp

@[simp] theorem lineOutputOf_pending (d : Display) (s : State) :
    (lineOutputOf d s).pending = s.pending := by
  unfold lineOutputOf
  (try dsimp only)
  (repeat' split) <;> simp

@[simp] theorem lineOutputOf_port (d : Display) (s : State) :
    (lineOutputOf d s).port = s.port := by
  unfold lineOutputOf
  (try dsimp only)
  (repeat' split) <;> simp

@[simp] theorem lineOutputOf_record (d : Display) (s : State) :
    (lineOutputOf d s).capture.record = s.capture.record := by
  unfold lineOutputOf
  (try dsimp only)
  (repeat' split) <;> simp

@[simp] theorem completeLine_memory (s : State) :
    (completeLine s).memory = s.memory := by
  unfold completeLine
  (try dsimp only)
  (repeat' split) <;> simp

@[simp] theorem completeLine_pending (s : State) :
    (completeLine s).pending = s.pending := by
  unfold completeLine
  (try dsimp only)
  (repeat' split) <;> simp

@[simp] theorem completeLine_port (s : State) :
    (completeLine s).port = s.port := by
  unfold completeLine
  (try dsimp only)
  (repeat' split) <;> simp

@[simp] theorem completeLine_record (s : State) :
    (completeLine s).capture.record = s.capture.record := by
  unfold completeLine
  (try dsimp only)
  (repeat' split) <;> simp

@[simp] theorem onLayerRow_memory (d : Display) (serial layer row : Nat) (f : Layer → Layer) (s : State) :
    (onLayerRow d serial layer row f s).memory = s.memory := by
  unfold onLayerRow
  (try dsimp only)
  (repeat' split) <;> simp

@[simp] theorem onLayerRow_pending (d : Display) (serial layer row : Nat) (f : Layer → Layer) (s : State) :
    (onLayerRow d serial layer row f s).pending = s.pending := by
  unfold onLayerRow
  (try dsimp only)
  (repeat' split) <;> simp

@[simp] theorem onLayerRow_port (d : Display) (serial layer row : Nat) (f : Layer → Layer) (s : State) :
    (onLayerRow d serial layer row f s).port = s.port := by
  unfold onLayerRow
  (try dsimp only)
  (repeat' split) <;> simp

@[simp] theorem onLayerRow_record (d : Display) (serial layer row : Nat) (f : Layer → Layer) (s : State) :
    (onLayerRow d serial layer row f s).capture.record = s.capture.record := by
  unfold onLayerRow
  (try dsimp only)
  (repeat' split) <;> simp

@[simp] theorem layerRowDone_memory (d : Display) (serial layer row offset : Nat) (bytes : List Byte) (s : State) :
    (layerRowDone d serial layer row offset bytes s).memory = s.memory := by
  unfold layerRowDone
  (try dsimp only)
  (repeat' split) <;> simp

@[simp] theorem layerRowDone_pending (d : Display) (serial layer row offset : Nat) (bytes : List Byte) (s : State) :
    (layerRowDone d serial layer row offset bytes s).pending = s.pending := by
  unfold layerRowDone
  (try dsimp only)
  (repeat' split) <;> simp

@[simp] theorem layerRowDone_port (d : Display) (serial layer row offset : Nat) (bytes : List Byte) (s : State) :
    (layerRowDone d serial layer row offset bytes s).port = s.port := by
  unfold layerRowDone
  (try dsimp only)
  (repeat' split) <;> simp

@[simp] theorem layerRowDone_record (d : Display) (serial layer row offset : Nat) (bytes : List Byte) (s : State) :
    (layerRowDone d serial layer row offset bytes s).capture.record = s.capture.record := by
  unfold layerRowDone
  (try dsimp only)
  (repeat' split) <;> simp

@[simp] theorem layerRowFault_memory (d : Display) (serial layer row : Nat) (s : State) :
    (layerRowFault d serial layer row s).memory = s.memory := by
  unfold layerRowFault
  (try dsimp only)
  (repeat' split) <;> simp

@[simp] theorem layerRowFault_pending (d : Display) (serial layer row : Nat) (s : State) :
    (layerRowFault d serial layer row s).pending = s.pending := by
  unfold layerRowFault
  (try dsimp only)
  (repeat' split) <;> simp

@[simp] theorem layerRowFault_port (d : Display) (serial layer row : Nat) (s : State) :
    (layerRowFault d serial layer row s).port = s.port := by
  unfold layerRowFault
  (try dsimp only)
  (repeat' split) <;> simp

@[simp] theorem layerRowFault_record (d : Display) (serial layer row : Nat) (s : State) :
    (layerRowFault d serial layer row s).capture.record = s.capture.record := by
  unfold layerRowFault
  (try dsimp only)
  (repeat' split) <;> simp

@[simp] theorem onTwinRow_memory (serial row : Nat) (f : List RowBuf → List RowBuf) (s : State) :
    (onTwinRow serial row f s).memory = s.memory := by
  unfold onTwinRow
  (try dsimp only)
  (repeat' split) <;> simp

@[simp] theorem onTwinRow_pending (serial row : Nat) (f : List RowBuf → List RowBuf) (s : State) :
    (onTwinRow serial row f s).pending = s.pending := by
  unfold onTwinRow
  (try dsimp only)
  (repeat' split) <;> simp

@[simp] theorem onTwinRow_port (serial row : Nat) (f : List RowBuf → List RowBuf) (s : State) :
    (onTwinRow serial row f s).port = s.port := by
  unfold onTwinRow
  (try dsimp only)
  (repeat' split) <;> simp

@[simp] theorem onTwinRow_record (serial row : Nat) (f : List RowBuf → List RowBuf) (s : State) :
    (onTwinRow serial row f s).capture.record = s.capture.record := by
  unfold onTwinRow
  (try dsimp only)
  (repeat' split) <;> simp

@[simp] theorem detachComposers_memory (s : State) :
    (detachComposers s).memory = s.memory := by
  rfl

@[simp] theorem detachComposers_pending (s : State) :
    (detachComposers s).pending = s.pending := by
  rfl

@[simp] theorem detachComposers_port (s : State) :
    (detachComposers s).port = s.port := by
  rfl

@[simp] theorem detachComposers_record (s : State) :
    (detachComposers s).capture.record = s.capture.record := rfl

/-! ## Machine/Capture.lean -/

@[simp] theorem handCapture_memory (st : CaptureState) (s : State) :
    (handCapture st s).memory = s.memory := by
  unfold handCapture
  (try dsimp only)
  (repeat' split) <;> simp

@[simp] theorem handCapture_pending (st : CaptureState) (s : State) :
    (handCapture st s).pending = s.pending := by
  unfold handCapture
  (try dsimp only)
  (repeat' split) <;> simp

@[simp] theorem handCapture_port (st : CaptureState) (s : State) :
    (handCapture st s).port = s.port := by
  unfold handCapture
  (try dsimp only)
  (repeat' split) <;> simp

@[simp] theorem handCapture_record (st : CaptureState) (s : State) :
    (handCapture st s).capture.record = s.capture.record := by
  unfold handCapture
  (try dsimp only)
  (repeat' split) <;> simp

@[simp] theorem setCapture_memory (st : CaptureState) (s : State) :
    (setCapture st s).memory = s.memory := by
  unfold setCapture
  (try dsimp only)
  (repeat' split) <;> simp

@[simp] theorem setCapture_pending (st : CaptureState) (s : State) :
    (setCapture st s).pending = s.pending := by
  unfold setCapture
  (try dsimp only)
  (repeat' split) <;> simp

@[simp] theorem setCapture_port (st : CaptureState) (s : State) :
    (setCapture st s).port = s.port := by
  unfold setCapture
  (try dsimp only)
  (repeat' split) <;> simp

@[simp] theorem setCapture_record (st : CaptureState) (s : State) :
    (setCapture st s).capture.record = s.capture.record := by
  unfold setCapture
  (try dsimp only)
  (repeat' split) <;> simp

@[simp] theorem powerUp_memory (s : State) :
    (powerUp s).memory = s.memory := by
  unfold powerUp
  (try dsimp only)
  (repeat' split) <;> simp

@[simp] theorem powerUp_pending (s : State) :
    (powerUp s).pending = s.pending := by
  unfold powerUp
  (try dsimp only)
  (repeat' split) <;> simp

@[simp] theorem powerUp_port (s : State) :
    (powerUp s).port = s.port := by
  unfold powerUp
  (try dsimp only)
  (repeat' split) <;> simp

@[simp] theorem powerUp_record (s : State) :
    (powerUp s).capture.record = s.capture.record := by
  unfold powerUp
  (try dsimp only)
  (repeat' split) <;> simp

@[simp] theorem closeDirect_memory (frame : Nat) (s : State) :
    (closeDirect frame s).memory = s.memory := by
  unfold closeDirect
  (try dsimp only)
  (repeat' split) <;> simp

@[simp] theorem closeDirect_pending (frame : Nat) (s : State) :
    (closeDirect frame s).pending = s.pending := by
  unfold closeDirect
  (try dsimp only)
  (repeat' split) <;> simp

@[simp] theorem closeDirect_port (frame : Nat) (s : State) :
    (closeDirect frame s).port = s.port := by
  unfold closeDirect
  (try dsimp only)
  (repeat' split) <;> simp

@[simp] theorem closeDirect_record (frame : Nat) (s : State) :
    (closeDirect frame s).capture.record = s.capture.record := by
  unfold closeDirect
  (try dsimp only)
  (repeat' split) <;> simp

@[simp] theorem abandonFrame_memory (frame : Nat) (s : State) :
    (abandonFrame frame s).memory = s.memory := by
  unfold abandonFrame
  (try dsimp only)
  (repeat' split) <;> simp

@[simp] theorem abandonFrame_pending (frame : Nat) (s : State) :
    (abandonFrame frame s).pending = s.pending := by
  unfold abandonFrame
  (try dsimp only)
  (repeat' split) <;> simp

@[simp] theorem abandonFrame_port (frame : Nat) (s : State) :
    (abandonFrame frame s).port = s.port := by
  unfold abandonFrame
  (try dsimp only)
  (repeat' split) <;> simp

@[simp] theorem abandonFrame_record (frame : Nat) (s : State) :
    (abandonFrame frame s).capture.record = s.capture.record := by
  unfold abandonFrame
  (try dsimp only)
  (repeat' split) <;> simp

@[simp] theorem abandonFrames_memory (kind : KeptFrame → Bool) (s : State) :
    (abandonFrames kind s).memory = s.memory := by
  unfold abandonFrames
  (try dsimp only)
  (repeat' split) <;> simp

@[simp] theorem abandonFrames_pending (kind : KeptFrame → Bool) (s : State) :
    (abandonFrames kind s).pending = s.pending := by
  unfold abandonFrames
  (try dsimp only)
  (repeat' split) <;> simp

@[simp] theorem abandonFrames_port (kind : KeptFrame → Bool) (s : State) :
    (abandonFrames kind s).port = s.port := by
  unfold abandonFrames
  (try dsimp only)
  (repeat' split) <;> simp

@[simp] theorem abandonFrames_record (kind : KeptFrame → Bool) (s : State) :
    (abandonFrames kind s).capture.record = s.capture.record := by
  unfold abandonFrames
  (try dsimp only)
  (repeat' split) <;> simp

@[simp] theorem loseOpen_memory (s : State) :
    (loseOpen s).memory = s.memory := by
  unfold loseOpen
  (try dsimp only)
  (repeat' split) <;> simp

@[simp] theorem loseOpen_pending (s : State) :
    (loseOpen s).pending = s.pending := by
  unfold loseOpen
  (try dsimp only)
  (repeat' split) <;> simp

@[simp] theorem loseOpen_port (s : State) :
    (loseOpen s).port = s.port := by
  unfold loseOpen
  (try dsimp only)
  (repeat' split) <;> simp

@[simp] theorem loseOpen_record (s : State) :
    (loseOpen s).capture.record = s.capture.record := by
  unfold loseOpen
  (try dsimp only)
  (repeat' split) <;> simp

@[simp] theorem enterOff_memory (s : State) :
    (enterOff s).memory = s.memory := by
  unfold enterOff
  (try dsimp only)
  (repeat' split) <;> simp

@[simp] theorem enterOff_pending (s : State) :
    (enterOff s).pending = s.pending := by
  unfold enterOff
  (try dsimp only)
  (repeat' split) <;> simp

@[simp] theorem enterOff_port (s : State) :
    (enterOff s).port = s.port := by
  unfold enterOff
  (try dsimp only)
  (repeat' split) <;> simp

@[simp] theorem enterOff_record (s : State) :
    (enterOff s).capture.record = s.capture.record := by
  unfold enterOff
  (try dsimp only)
  (repeat' split) <;> simp

@[simp] theorem arm_memory (s : State) :
    (arm s).memory = s.memory := by
  unfold arm
  (try dsimp only)
  (repeat' split) <;> simp

@[simp] theorem arm_pending (s : State) :
    (arm s).pending = s.pending := by
  unfold arm
  (try dsimp only)
  (repeat' split) <;> simp

@[simp] theorem arm_port (s : State) :
    (arm s).port = s.port := by
  unfold arm
  (try dsimp only)
  (repeat' split) <;> simp

@[simp] theorem arm_record (s : State) :
    (arm s).capture.record = s.capture.record := by
  unfold arm
  (try dsimp only)
  (repeat' split) <;> simp

@[simp] theorem runStep_memory (s : State) :
    (runStep s).memory = s.memory := by
  unfold runStep
  (try dsimp only)
  (repeat' split) <;> simp

@[simp] theorem runStep_pending (s : State) :
    (runStep s).pending = s.pending := by
  unfold runStep
  (try dsimp only)
  (repeat' split) <;> simp

@[simp] theorem runStep_port (s : State) :
    (runStep s).port = s.port := by
  unfold runStep
  (try dsimp only)
  (repeat' split) <;> simp

@[simp] theorem runStep_record (s : State) :
    (runStep s).capture.record = s.capture.record := by
  unfold runStep
  (try dsimp only)
  (repeat' split) <;> simp

@[simp] theorem nextStep_memory (s : State) :
    (nextStep s).memory = s.memory := by
  unfold nextStep
  (try dsimp only)
  (repeat' split) <;> simp

@[simp] theorem nextStep_pending (s : State) :
    (nextStep s).pending = s.pending := by
  unfold nextStep
  (try dsimp only)
  (repeat' split) <;> simp

@[simp] theorem nextStep_port (s : State) :
    (nextStep s).port = s.port := by
  unfold nextStep
  (try dsimp only)
  (repeat' split) <;> simp

@[simp] theorem nextStep_record (s : State) :
    (nextStep s).capture.record = s.capture.record := by
  unfold nextStep
  (try dsimp only)
  (repeat' split) <;> simp

@[simp] theorem beginSetup_memory (s : State) :
    (beginSetup s).memory = s.memory := by
  unfold beginSetup
  (try dsimp only)
  (repeat' split) <;> simp

@[simp] theorem beginSetup_pending (s : State) :
    (beginSetup s).pending = s.pending := by
  unfold beginSetup
  (try dsimp only)
  (repeat' split) <;> simp

@[simp] theorem beginSetup_port (s : State) :
    (beginSetup s).port = s.port := by
  unfold beginSetup
  (try dsimp only)
  (repeat' split) <;> simp

@[simp] theorem beginSetup_record (s : State) :
    (beginSetup s).capture.record = s.capture.record := by
  unfold beginSetup
  (try dsimp only)
  (repeat' split) <;> simp

@[simp] theorem settle_memory (s : State) :
    (settle s).memory = s.memory := by
  unfold settle
  (try dsimp only)
  (repeat' split) <;> simp

@[simp] theorem settle_pending (s : State) :
    (settle s).pending = s.pending := by
  unfold settle
  (try dsimp only)
  (repeat' split) <;> simp

@[simp] theorem settle_port (s : State) :
    (settle s).port = s.port := by
  unfold settle
  (try dsimp only)
  (repeat' split) <;> simp

@[simp] theorem settle_record (s : State) :
    (settle s).capture.record = s.capture.record := by
  unfold settle
  (try dsimp only)
  (repeat' split) <;> simp

@[simp] theorem endWait_memory (s : State) :
    (endWait s).memory = s.memory := by
  unfold endWait
  (try dsimp only)
  (repeat' split) <;> simp

@[simp] theorem endWait_pending (s : State) :
    (endWait s).pending = s.pending := by
  unfold endWait
  (try dsimp only)
  (repeat' split) <;> simp

@[simp] theorem endWait_port (s : State) :
    (endWait s).port = s.port := by
  unfold endWait
  (try dsimp only)
  (repeat' split) <;> simp

@[simp] theorem endWait_record (s : State) :
    (endWait s).capture.record = s.capture.record := by
  unfold endWait
  (try dsimp only)
  (repeat' split) <;> simp

@[simp] theorem scriptFails_memory (reason : ScriptFault) (s : State) :
    (scriptFails reason s).memory = s.memory := by
  unfold scriptFails
  (try dsimp only)
  (repeat' split) <;> simp

@[simp] theorem scriptFails_pending (reason : ScriptFault) (s : State) :
    (scriptFails reason s).pending = s.pending := by
  unfold scriptFails
  (try dsimp only)
  (repeat' split) <;> simp

@[simp] theorem scriptFails_port (reason : ScriptFault) (s : State) :
    (scriptFails reason s).port = s.port := by
  unfold scriptFails
  (try dsimp only)
  (repeat' split) <;> simp

@[simp] theorem scriptFails_record (reason : ScriptFault) (s : State) :
    (scriptFails reason s).capture.record = s.capture.record := by
  unfold scriptFails
  (try dsimp only)
  (repeat' split) <;> simp

@[simp] theorem endWrite_memory (failure : Option ScriptFault) (s : State) :
    (endWrite failure s).memory = s.memory := by
  unfold endWrite
  (try dsimp only)
  (repeat' split) <;> simp

@[simp] theorem endWrite_pending (failure : Option ScriptFault) (s : State) :
    (endWrite failure s).pending = s.pending := by
  unfold endWrite
  (try dsimp only)
  (repeat' split) <;> simp

@[simp] theorem endWrite_port (failure : Option ScriptFault) (s : State) :
    (endWrite failure s).port = s.port := by
  unfold endWrite
  (try dsimp only)
  (repeat' split) <;> simp

@[simp] theorem endWrite_record (failure : Option ScriptFault) (s : State) :
    (endWrite failure s).capture.record = s.capture.record := by
  unfold endWrite
  (try dsimp only)
  (repeat' split) <;> simp

@[simp] theorem needRise_memory (s : State) :
    (needRise s).memory = s.memory := by
  unfold needRise
  (try dsimp only)
  (repeat' split) <;> simp

@[simp] theorem needRise_pending (s : State) :
    (needRise s).pending = s.pending := by
  unfold needRise
  (try dsimp only)
  (repeat' split) <;> simp

@[simp] theorem needRise_port (s : State) :
    (needRise s).port = s.port := by
  unfold needRise
  (try dsimp only)
  (repeat' split) <;> simp

@[simp] theorem needRise_record (s : State) :
    (needRise s).capture.record = s.capture.record := by
  unfold needRise
  (try dsimp only)
  (repeat' split) <;> simp

@[simp] theorem stopCapturing_memory (s : State) :
    (stopCapturing s).memory = s.memory := by
  unfold stopCapturing
  (try dsimp only)
  (repeat' split) <;> simp

@[simp] theorem stopCapturing_pending (s : State) :
    (stopCapturing s).pending = s.pending := by
  unfold stopCapturing
  (try dsimp only)
  (repeat' split) <;> simp

@[simp] theorem stopCapturing_port (s : State) :
    (stopCapturing s).port = s.port := by
  unfold stopCapturing
  (try dsimp only)
  (repeat' split) <;> simp

@[simp] theorem stopCapturing_record (s : State) :
    (stopCapturing s).capture.record = s.capture.record := by
  unfold stopCapturing
  (try dsimp only)
  split <;> simp
  split <;> rfl

@[simp] theorem needDrop_memory (s : State) :
    (needDrop s).memory = s.memory := by
  unfold needDrop
  (try dsimp only)
  (repeat' split) <;> simp

@[simp] theorem needDrop_pending (s : State) :
    (needDrop s).pending = s.pending := by
  unfold needDrop
  (try dsimp only)
  (repeat' split) <;> simp

@[simp] theorem needDrop_port (s : State) :
    (needDrop s).port = s.port := by
  unfold needDrop
  (try dsimp only)
  (repeat' split) <;> simp

@[simp] theorem needDrop_record (s : State) :
    (needDrop s).capture.record = s.capture.record := by
  unfold needDrop
  (try dsimp only)
  (repeat' split) <;> simp

@[simp] theorem followNeed_memory (before : Bool) (s : State) :
    (followNeed before s).memory = s.memory := by
  unfold followNeed
  (try dsimp only)
  (repeat' split) <;> simp

@[simp] theorem followNeed_pending (before : Bool) (s : State) :
    (followNeed before s).pending = s.pending := by
  unfold followNeed
  (try dsimp only)
  (repeat' split) <;> simp

@[simp] theorem followNeed_port (before : Bool) (s : State) :
    (followNeed before s).port = s.port := by
  unfold followNeed
  (try dsimp only)
  (repeat' split) <;> simp

@[simp] theorem followNeed_record (before : Bool) (s : State) :
    (followNeed before s).capture.record = s.capture.record := by
  unfold followNeed
  (try dsimp only)
  (repeat' split) <;> simp

@[simp] theorem withNeed_memory (f : State → State) (s : State) (h : (f s).memory = s.memory) :
    (withNeed f s).memory = s.memory := by
  simp [withNeed, h]

@[simp] theorem withNeed_pending (f : State → State) (s : State) (h : (f s).pending = s.pending) :
    (withNeed f s).pending = s.pending := by
  simp [withNeed, h]

@[simp] theorem withNeed_port (f : State → State) (s : State) (h : (f s).port = s.port) :
    (withNeed f s).port = s.port := by
  simp [withNeed, h]

@[simp] theorem withNeed_record (f : State → State) (s : State) (h : (f s).capture.record = s.capture.record) :
    (withNeed f s).capture.record = s.capture.record := by
  simp [withNeed, h]

@[simp] theorem shiftHistory_memory (m : FrameMark) (s : State) :
    (shiftHistory m s).memory = s.memory := by
  unfold shiftHistory
  (try dsimp only)
  (repeat' split) <;> simp

@[simp] theorem shiftHistory_pending (m : FrameMark) (s : State) :
    (shiftHistory m s).pending = s.pending := by
  unfold shiftHistory
  (try dsimp only)
  (repeat' split) <;> simp

@[simp] theorem shiftHistory_port (m : FrameMark) (s : State) :
    (shiftHistory m s).port = s.port := by
  unfold shiftHistory
  (try dsimp only)
  (repeat' split) <;> simp

@[simp] theorem shiftHistory_record (m : FrameMark) (s : State) :
    (shiftHistory m s).capture.record = s.capture.record := by
  unfold shiftHistory
  (try dsimp only)
  (repeat' split) <;> simp

@[simp] theorem reachMarker_memory (s : State) :
    (reachMarker s).memory = s.memory := by
  unfold reachMarker
  (try dsimp only)
  (repeat' split) <;> simp

@[simp] theorem reachMarker_pending (s : State) :
    (reachMarker s).pending = s.pending := by
  unfold reachMarker
  (try dsimp only)
  (repeat' split) <;> simp

@[simp] theorem reachMarker_port (s : State) :
    (reachMarker s).port = s.port := by
  unfold reachMarker
  (try dsimp only)
  (repeat' split) <;> simp

@[simp] theorem reachMarker_record (s : State) :
    (reachMarker s).capture.record = s.capture.record := by
  unfold reachMarker
  (try dsimp only)
  (repeat' split) <;> simp

@[simp] theorem publish_memory (f : KeptFrame) (s : State) :
    (publish f s).memory = s.memory := by
  unfold publish
  (try dsimp only)
  (repeat' split) <;> simp

@[simp] theorem publish_pending (f : KeptFrame) (s : State) :
    (publish f s).pending = s.pending := by
  unfold publish
  (try dsimp only)
  (repeat' split) <;> simp

@[simp] theorem publish_port (f : KeptFrame) (s : State) :
    (publish f s).port = s.port := by
  unfold publish
  (try dsimp only)
  (repeat' split) <;> simp

@[simp] theorem publish_record (f : KeptFrame) (s : State) :
    (publish f s).capture.record = s.capture.record := by
  unfold publish
  (try dsimp only)
  (repeat' split) <;> simp

@[simp] theorem completeFrame_memory (f : KeptFrame) (s : State) :
    (completeFrame f s).memory = s.memory := by
  unfold completeFrame
  (try dsimp only)
  (repeat' split) <;> simp

@[simp] theorem completeFrame_pending (f : KeptFrame) (s : State) :
    (completeFrame f s).pending = s.pending := by
  unfold completeFrame
  (try dsimp only)
  (repeat' split) <;> simp

@[simp] theorem completeFrame_port (f : KeptFrame) (s : State) :
    (completeFrame f s).port = s.port := by
  unfold completeFrame
  (try dsimp only)
  (repeat' split) <;> simp

@[simp] theorem completeFrame_record (f : KeptFrame) (s : State) :
    (completeFrame f s).capture.record = s.capture.record := by
  unfold completeFrame
  (try dsimp only)
  (repeat' split) <;> simp

@[simp] theorem completeFrames_memory (n : Nat) (s : State) : (completeFrames n s).memory = s.memory := by
  induction n generalizing s with
  | zero => rfl
  | succ n ih =>
    unfold completeFrames
    dsimp only
    split <;> simp [ih]

@[simp] theorem completeFrames_pending (n : Nat) (s : State) : (completeFrames n s).pending = s.pending := by
  induction n generalizing s with
  | zero => rfl
  | succ n ih =>
    unfold completeFrames
    dsimp only
    split <;> simp [ih]

@[simp] theorem completeFrames_port (n : Nat) (s : State) : (completeFrames n s).port = s.port := by
  induction n generalizing s with
  | zero => rfl
  | succ n ih =>
    unfold completeFrames
    dsimp only
    split <;> simp [ih]

@[simp] theorem completeFrames_record (n : Nat) (s : State) : (completeFrames n s).capture.record = s.capture.record := by
  induction n generalizing s with
  | zero => rfl
  | succ n ih =>
    unfold completeFrames
    dsimp only
    split <;> simp [ih]

@[simp] theorem finishFrames_memory (s : State) :
    (finishFrames s).memory = s.memory := by
  unfold finishFrames
  (try dsimp only)
  (repeat' split) <;> simp

@[simp] theorem finishFrames_pending (s : State) :
    (finishFrames s).pending = s.pending := by
  unfold finishFrames
  (try dsimp only)
  (repeat' split) <;> simp

@[simp] theorem finishFrames_port (s : State) :
    (finishFrames s).port = s.port := by
  unfold finishFrames
  (try dsimp only)
  (repeat' split) <;> simp

@[simp] theorem finishFrames_record (s : State) :
    (finishFrames s).capture.record = s.capture.record := by
  unfold finishFrames
  (try dsimp only)
  (repeat' split) <;> simp

@[simp] theorem closeKept_memory (id : Nat) (s : State) :
    (closeKept id s).memory = s.memory := by
  unfold closeKept
  (try dsimp only)
  (repeat' split) <;> simp

@[simp] theorem closeKept_pending (id : Nat) (s : State) :
    (closeKept id s).pending = s.pending := by
  unfold closeKept
  (try dsimp only)
  (repeat' split) <;> simp

@[simp] theorem closeKept_port (id : Nat) (s : State) :
    (closeKept id s).port = s.port := by
  unfold closeKept
  (try dsimp only)
  (repeat' split) <;> simp

@[simp] theorem closeKept_record (id : Nat) (s : State) :
    (closeKept id s).capture.record = s.capture.record := by
  unfold closeKept
  (try dsimp only)
  (repeat' split) <;> simp

@[simp] theorem closeOpen_memory (s : State) :
    (closeOpen s).memory = s.memory := by
  unfold closeOpen
  (try dsimp only)
  (repeat' split) <;> simp

@[simp] theorem closeOpen_pending (s : State) :
    (closeOpen s).pending = s.pending := by
  unfold closeOpen
  (try dsimp only)
  (repeat' split) <;> simp

@[simp] theorem closeOpen_port (s : State) :
    (closeOpen s).port = s.port := by
  unfold closeOpen
  (try dsimp only)
  (repeat' split) <;> simp

@[simp] theorem closeOpen_record (s : State) :
    (closeOpen s).capture.record = s.capture.record := by
  unfold closeOpen
  (try dsimp only)
  (repeat' split) <;> simp

@[simp] theorem openKept_memory (number : Byte) (s : State) :
    (openKept number s).memory = s.memory := by
  unfold openKept
  (try dsimp only)
  (repeat' split) <;> simp

@[simp] theorem openKept_pending (number : Byte) (s : State) :
    (openKept number s).pending = s.pending := by
  unfold openKept
  (try dsimp only)
  (repeat' split) <;> simp

@[simp] theorem openKept_port (number : Byte) (s : State) :
    (openKept number s).port = s.port := by
  unfold openKept
  (try dsimp only)
  (repeat' split) <;> simp

@[simp] theorem openKept_record (number : Byte) (s : State) :
    (openKept number s).capture.record = s.capture.record := by
  unfold openKept
  (try dsimp only)
  (repeat' split) <;> simp

@[simp] theorem restartLoss_memory (s : State) :
    (restartLoss s).memory = s.memory := by
  unfold restartLoss
  (try dsimp only)
  (repeat' split) <;> simp

@[simp] theorem restartLoss_pending (s : State) :
    (restartLoss s).pending = s.pending := by
  unfold restartLoss
  (try dsimp only)
  (repeat' split) <;> simp

@[simp] theorem restartLoss_port (s : State) :
    (restartLoss s).port = s.port := by
  unfold restartLoss
  (try dsimp only)
  (repeat' split) <;> simp

@[simp] theorem restartLoss_record (s : State) :
    (restartLoss s).capture.record = s.capture.record := by
  unfold restartLoss
  (try dsimp only)
  (repeat' split) <;> simp

@[simp] theorem openNext_memory (number : Byte) (s : State) :
    (openNext number s).memory = s.memory := by
  unfold openNext
  (try dsimp only)
  (repeat' split) <;> simp

@[simp] theorem openNext_pending (number : Byte) (s : State) :
    (openNext number s).pending = s.pending := by
  unfold openNext
  (try dsimp only)
  (repeat' split) <;> simp

@[simp] theorem openNext_port (number : Byte) (s : State) :
    (openNext number s).port = s.port := by
  unfold openNext
  (try dsimp only)
  (repeat' split) <;> simp

@[simp] theorem openNext_record (number : Byte) (s : State) :
    (openNext number s).capture.record = s.capture.record := by
  unfold openNext
  (try dsimp only)
  (repeat' split) <;> simp

@[simp] theorem startCodeStopping_memory (s : State) :
    (startCodeStopping s).memory = s.memory := by
  unfold startCodeStopping
  (try dsimp only)
  (repeat' split) <;> simp

@[simp] theorem startCodeStopping_pending (s : State) :
    (startCodeStopping s).pending = s.pending := by
  unfold startCodeStopping
  (try dsimp only)
  (repeat' split) <;> simp

@[simp] theorem startCodeStopping_port (s : State) :
    (startCodeStopping s).port = s.port := by
  unfold startCodeStopping
  (try dsimp only)
  (repeat' split) <;> simp

@[simp] theorem startCodeStopping_record (s : State) :
    (startCodeStopping s).capture.record = s.capture.record := by
  unfold startCodeStopping
  (try dsimp only)
  (repeat' split) <;> simp

@[simp] theorem frameCode_memory (number : Byte) (s : State) :
    (frameCode number s).memory = s.memory := by
  unfold frameCode
  (try dsimp only)
  (repeat' split) <;> simp

@[simp] theorem frameCode_pending (number : Byte) (s : State) :
    (frameCode number s).pending = s.pending := by
  unfold frameCode
  (try dsimp only)
  (repeat' split) <;> simp

@[simp] theorem frameCode_port (number : Byte) (s : State) :
    (frameCode number s).port = s.port := by
  unfold frameCode
  (try dsimp only)
  (repeat' split) <;> simp

@[simp] theorem frameCode_record (number : Byte) (s : State) :
    (frameCode number s).capture.record = s.capture.record := by
  unfold frameCode
  (try dsimp only)
  (repeat' split) <;> simp

@[simp] theorem frameEndElement_memory (s : State) :
    (frameEndElement s).memory = s.memory := by
  unfold frameEndElement
  (try dsimp only)
  (repeat' split) <;> simp

@[simp] theorem frameEndElement_pending (s : State) :
    (frameEndElement s).pending = s.pending := by
  unfold frameEndElement
  (try dsimp only)
  (repeat' split) <;> simp

@[simp] theorem frameEndElement_port (s : State) :
    (frameEndElement s).port = s.port := by
  unfold frameEndElement
  (try dsimp only)
  (repeat' split) <;> simp

@[simp] theorem frameEndElement_record (s : State) :
    (frameEndElement s).capture.record = s.capture.record := by
  unfold frameEndElement
  (try dsimp only)
  (repeat' split) <;> simp

@[simp] theorem countMissing_memory (id n : Nat) (s : State) :
    (countMissing id n s).memory = s.memory := by
  unfold countMissing
  (try dsimp only)
  (repeat' split) <;> simp

@[simp] theorem countMissing_pending (id n : Nat) (s : State) :
    (countMissing id n s).pending = s.pending := by
  unfold countMissing
  (try dsimp only)
  (repeat' split) <;> simp

@[simp] theorem countMissing_port (id n : Nat) (s : State) :
    (countMissing id n s).port = s.port := by
  unfold countMissing
  (try dsimp only)
  (repeat' split) <;> simp

@[simp] theorem countMissing_record (id n : Nat) (s : State) :
    (countMissing id n s).capture.record = s.capture.record := by
  unfold countMissing
  (try dsimp only)
  (repeat' split) <;> simp

@[simp] theorem offerLine_memory (id row : Nat) (payload : List Byte) (s : State) :
    (offerLine id row payload s).memory = s.memory := by
  unfold offerLine
  (try dsimp only)
  (repeat' split) <;> simp

@[simp] theorem offerLine_pending (id row : Nat) (payload : List Byte) (s : State) :
    (offerLine id row payload s).pending = s.pending := by
  unfold offerLine
  (try dsimp only)
  (repeat' split) <;> simp

@[simp] theorem offerLine_port (id row : Nat) (payload : List Byte) (s : State) :
    (offerLine id row payload s).port = s.port := by
  unfold offerLine
  (try dsimp only)
  (repeat' split) <;> simp

@[simp] theorem offerLine_record (id row : Nat) (payload : List Byte) (s : State) :
    (offerLine id row payload s).capture.record = s.capture.record := by
  unfold offerLine
  (try dsimp only)
  (repeat' split) <;> simp

@[simp] theorem lineInOrder_memory (id row : Nat) (payload : List Byte) (check : Half) (s : State) :
    (lineInOrder id row payload check s).memory = s.memory := by
  unfold lineInOrder
  (try dsimp only)
  (repeat' split) <;> simp

@[simp] theorem lineInOrder_pending (id row : Nat) (payload : List Byte) (check : Half) (s : State) :
    (lineInOrder id row payload check s).pending = s.pending := by
  unfold lineInOrder
  (try dsimp only)
  (repeat' split) <;> simp

@[simp] theorem lineInOrder_port (id row : Nat) (payload : List Byte) (check : Half) (s : State) :
    (lineInOrder id row payload check s).port = s.port := by
  unfold lineInOrder
  (try dsimp only)
  (repeat' split) <;> simp

@[simp] theorem lineInOrder_record (id row : Nat) (payload : List Byte) (check : Half) (s : State) :
    (lineInOrder id row payload check s).capture.record = s.capture.record := by
  unfold lineInOrder
  (try dsimp only)
  (repeat' split) <;> simp

@[simp] theorem linePacketElement_memory (row : Nat) (payload : List Byte) (check : Half) (s : State) :
    (linePacketElement row payload check s).memory = s.memory := by
  unfold linePacketElement
  (try dsimp only)
  (repeat' split) <;> simp

@[simp] theorem linePacketElement_pending (row : Nat) (payload : List Byte) (check : Half) (s : State) :
    (linePacketElement row payload check s).pending = s.pending := by
  unfold linePacketElement
  (try dsimp only)
  (repeat' split) <;> simp

@[simp] theorem linePacketElement_port (row : Nat) (payload : List Byte) (check : Half) (s : State) :
    (linePacketElement row payload check s).port = s.port := by
  unfold linePacketElement
  (try dsimp only)
  (repeat' split) <;> simp

@[simp] theorem linePacketElement_record (row : Nat) (payload : List Byte) (check : Half) (s : State) :
    (linePacketElement row payload check s).capture.record = s.capture.record := by
  unfold linePacketElement
  (try dsimp only)
  (repeat' split) <;> simp

@[simp] theorem loseLink_memory (s : State) :
    (loseLink s).memory = s.memory := by
  unfold loseLink
  (try dsimp only)
  (repeat' split) <;> simp

@[simp] theorem loseLink_pending (s : State) :
    (loseLink s).pending = s.pending := by
  unfold loseLink
  (try dsimp only)
  (repeat' split) <;> simp

@[simp] theorem loseLink_port (s : State) :
    (loseLink s).port = s.port := by
  unfold loseLink
  (try dsimp only)
  (repeat' split) <;> simp

@[simp] theorem loseLink_record (s : State) :
    (loseLink s).capture.record = s.capture.record := by
  unfold loseLink
  (try dsimp only)
  (repeat' split) <;> simp

@[simp] theorem expireLoss_memory (s : State) :
    (expireLoss s).memory = s.memory := by
  unfold expireLoss
  (try dsimp only)
  (repeat' split) <;> simp

@[simp] theorem expireLoss_pending (s : State) :
    (expireLoss s).pending = s.pending := by
  unfold expireLoss
  (try dsimp only)
  (repeat' split) <;> simp

@[simp] theorem expireLoss_port (s : State) :
    (expireLoss s).port = s.port := by
  unfold expireLoss
  (try dsimp only)
  (repeat' split) <;> simp

@[simp] theorem expireLoss_record (s : State) :
    (expireLoss s).capture.record = s.capture.record := by
  unfold expireLoss
  (try dsimp only)
  (repeat' split) <;> simp

@[simp] theorem issueBurst_memory (frame row n : Nat) (s : State) :
    (issueBurst frame row n s).memory = s.memory := by
  unfold issueBurst
  (try dsimp only)
  (repeat' split) <;> simp

@[simp] theorem issueBurst_pending (frame row n : Nat) (s : State) :
    (issueBurst frame row n s).pending = s.pending := by
  unfold issueBurst
  (try dsimp only)
  (repeat' split) <;> simp

@[simp] theorem issueBurst_port (frame row n : Nat) (s : State) :
    (issueBurst frame row n s).port = s.port := by
  unfold issueBurst
  (try dsimp only)
  (repeat' split) <;> simp

@[simp] theorem issueBurst_record (frame row n : Nat) (s : State) :
    (issueBurst frame row n s).capture.record = s.capture.record := by
  unfold issueBurst
  (try dsimp only)
  (repeat' split) <;> simp

@[simp] theorem burstSent_memory (frame row : Nat) (s : State) :
    (burstSent frame row s).memory = s.memory := by
  unfold burstSent
  (try dsimp only)
  (repeat' split) <;> simp

@[simp] theorem burstSent_pending (frame row : Nat) (s : State) :
    (burstSent frame row s).pending = s.pending := by
  unfold burstSent
  (try dsimp only)
  (repeat' split) <;> simp

@[simp] theorem burstSent_port (frame row : Nat) (s : State) :
    (burstSent frame row s).port = s.port := by
  unfold burstSent
  (try dsimp only)
  (repeat' split) <;> simp

@[simp] theorem burstSent_record (frame row : Nat) (s : State) :
    (burstSent frame row s).capture.record = s.capture.record := by
  unfold burstSent
  (try dsimp only)
  (repeat' split) <;> simp

@[simp] theorem burstFault_memory (frame : Nat) (s : State) :
    (burstFault frame s).memory = s.memory := by
  unfold burstFault
  (try dsimp only)
  (repeat' split) <;> simp

@[simp] theorem burstFault_pending (frame : Nat) (s : State) :
    (burstFault frame s).pending = s.pending := by
  unfold burstFault
  (try dsimp only)
  (repeat' split) <;> simp

@[simp] theorem burstFault_port (frame : Nat) (s : State) :
    (burstFault frame s).port = s.port := by
  unfold burstFault
  (try dsimp only)
  (repeat' split) <;> simp

@[simp] theorem burstFault_record (frame : Nat) (s : State) :
    (burstFault frame s).capture.record = s.capture.record := by
  unfold burstFault
  (try dsimp only)
  (repeat' split) <;> simp

@[simp] theorem clearAskedOn_memory (s : State) :
    (clearAskedOn s).memory = s.memory := by
  unfold clearAskedOn
  exact withNeed_memory _ _ rfl

@[simp] theorem clearAskedOn_pending (s : State) :
    (clearAskedOn s).pending = s.pending := by
  unfold clearAskedOn
  exact withNeed_pending _ _ rfl

@[simp] theorem clearAskedOn_port (s : State) :
    (clearAskedOn s).port = s.port := by
  unfold clearAskedOn
  exact withNeed_port _ _ rfl

@[simp] theorem clearAskedOn_record (s : State) : (clearAskedOn s).capture.record = s.capture.record :=
  withNeed_record _ _ rfl

@[simp] theorem detachCapture_memory (stores : Bool) (s : State) :
    (detachCapture stores s).memory = s.memory := by
  unfold detachCapture
  (try dsimp only)
  (repeat' split) <;> simp

@[simp] theorem detachCapture_pending (stores : Bool) (s : State) :
    (detachCapture stores s).pending = s.pending := by
  unfold detachCapture
  (try dsimp only)
  (repeat' split) <;> simp

@[simp] theorem detachCapture_port (stores : Bool) (s : State) :
    (detachCapture stores s).port = s.port := by
  unfold detachCapture
  (try dsimp only)
  (repeat' split) <;> simp

@[simp] theorem detachCapture_record (stores : Bool) (s : State) :
    (detachCapture stores s).capture.record = s.capture.record := by
  unfold detachCapture
  (try dsimp only)
  (repeat' split) <;> simp

/-! ## Machine/Asks.lean -/

@[simp] theorem switchCameraOn_memory (q : Word) (s : State) :
    (switchCameraOn q s).memory = s.memory := by
  unfold switchCameraOn
  rw [takeAsk_memory]
  exact withNeed_memory _ _ rfl

@[simp] theorem switchCameraOn_pending (q : Word) (s : State) :
    (switchCameraOn q s).pending = s.pending := by
  unfold switchCameraOn
  rw [takeAsk_pending]
  exact withNeed_pending _ _ rfl

@[simp] theorem switchCameraOn_port (q : Word) (s : State) :
    (switchCameraOn q s).port = s.port := by
  unfold switchCameraOn
  rw [takeAsk_port]
  exact withNeed_port _ _ rfl

@[simp] theorem switchCameraOn_record (q : Word) (s : State) :
    (switchCameraOn q s).capture.record = s.capture.record := by
  unfold switchCameraOn
  rw [takeAsk_record]
  exact withNeed_record _ _ rfl

@[simp] theorem switchCameraOff_memory (q : Word) (s : State) :
    (switchCameraOff q s).memory = s.memory := by
  unfold switchCameraOff
  (try dsimp only)
  (repeat' split) <;> simp

@[simp] theorem switchCameraOff_pending (q : Word) (s : State) :
    (switchCameraOff q s).pending = s.pending := by
  unfold switchCameraOff
  (try dsimp only)
  (repeat' split) <;> simp

@[simp] theorem switchCameraOff_port (q : Word) (s : State) :
    (switchCameraOff q s).port = s.port := by
  unfold switchCameraOff
  (try dsimp only)
  (repeat' split) <;> simp

@[simp] theorem switchCameraOff_record (q : Word) (s : State) :
    (switchCameraOff q s).capture.record = s.capture.record := by
  unfold switchCameraOff
  (try dsimp only)
  (repeat' split) <;> simp

@[simp] theorem beginLoad_memory (q : Word) (s : State) :
    (beginLoad q s).memory = s.memory := by
  rfl

@[simp] theorem beginLoad_pending (q : Word) (s : State) :
    (beginLoad q s).pending = s.pending := by
  rfl

@[simp] theorem beginLoad_port (q : Word) (s : State) :
    (beginLoad q s).port = s.port := by
  rfl

@[simp] theorem beginLoad_record (q : Word) (s : State) :
    (beginLoad q s).capture.record = s.capture.record := by
  unfold beginLoad
  (try dsimp only)
  (repeat' split) <;> simp

@[simp] theorem startLoad_memory (q : Word) (s : State) :
    (startLoad q s).memory = s.memory := by
  unfold startLoad
  (try dsimp only)
  (repeat' split) <;> simp

@[simp] theorem startLoad_pending (q : Word) (s : State) :
    (startLoad q s).pending = s.pending := by
  unfold startLoad
  (try dsimp only)
  (repeat' split) <;> simp

@[simp] theorem startLoad_port (q : Word) (s : State) :
    (startLoad q s).port = s.port := by
  unfold startLoad
  (try dsimp only)
  (repeat' split) <;> simp

@[simp] theorem startLoad_record (q : Word) (s : State) :
    (startLoad q s).capture.record = s.capture.record := by
  unfold startLoad
  (try dsimp only)
  (repeat' split) <;> simp

@[simp] theorem takeCameraAsk_memory (a : Ask) (s : State) :
    (takeCameraAsk a s).memory = s.memory := by
  unfold takeCameraAsk
  (try dsimp only)
  (repeat' split) <;> simp

@[simp] theorem takeCameraAsk_pending (a : Ask) (s : State) :
    (takeCameraAsk a s).pending = s.pending := by
  unfold takeCameraAsk
  (try dsimp only)
  (repeat' split) <;> simp

@[simp] theorem takeCameraAsk_port (a : Ask) (s : State) :
    (takeCameraAsk a s).port = s.port := by
  unfold takeCameraAsk
  (try dsimp only)
  (repeat' split) <;> simp

@[simp] theorem takeCameraAsk_record (a : Ask) (s : State) :
    (takeCameraAsk a s).capture.record = s.capture.record := by
  unfold takeCameraAsk
  (try dsimp only)
  (repeat' split) <;> simp

@[simp] theorem failLoad_memory (q : Word) (f : LoadFault) (s : State) :
    (failLoad q f s).memory = s.memory := by
  unfold failLoad
  (try dsimp only)
  (repeat' split) <;> simp

@[simp] theorem failLoad_pending (q : Word) (f : LoadFault) (s : State) :
    (failLoad q f s).pending = s.pending := by
  unfold failLoad
  (try dsimp only)
  (repeat' split) <;> simp

@[simp] theorem failLoad_port (q : Word) (f : LoadFault) (s : State) :
    (failLoad q f s).port = s.port := by
  unfold failLoad
  (try dsimp only)
  (repeat' split) <;> simp

@[simp] theorem failLoad_record (q : Word) (f : LoadFault) (s : State) :
    (failLoad q f s).capture.record = s.capture.record := by
  unfold failLoad
  (try dsimp only)
  (repeat' split) <;> simp

@[simp] theorem acceptLoad_memory (q : Word) (r : CameraRecord) (g : Geometry) (script : List ScriptStep) (s : State) :
    (acceptLoad q r g script s).memory = s.memory := by
  unfold acceptLoad
  (try dsimp only)
  (repeat' split) <;> simp

@[simp] theorem acceptLoad_pending (q : Word) (r : CameraRecord) (g : Geometry) (script : List ScriptStep) (s : State) :
    (acceptLoad q r g script s).pending = s.pending := by
  unfold acceptLoad
  (try dsimp only)
  (repeat' split) <;> simp

@[simp] theorem acceptLoad_port (q : Word) (r : CameraRecord) (g : Geometry) (script : List ScriptStep) (s : State) :
    (acceptLoad q r g script s).port = s.port := by
  unfold acceptLoad
  (try dsimp only)
  (repeat' split) <;> simp

@[simp] theorem decideLoad_memory (q : Word) (camera geometry script : List Byte) (s : State) :
    (decideLoad q camera geometry script s).memory = s.memory := by
  unfold decideLoad
  (try dsimp only)
  (repeat' split) <;> simp

@[simp] theorem decideLoad_pending (q : Word) (camera geometry script : List Byte) (s : State) :
    (decideLoad q camera geometry script s).pending = s.pending := by
  unfold decideLoad
  (try dsimp only)
  (repeat' split) <;> simp

@[simp] theorem decideLoad_port (q : Word) (camera geometry script : List Byte) (s : State) :
    (decideLoad q camera geometry script s).port = s.port := by
  unfold decideLoad
  (try dsimp only)
  (repeat' split) <;> simp

@[simp] theorem finishLoad_memory (s : State) :
    (finishLoad s).memory = s.memory := by
  unfold finishLoad
  (try dsimp only)
  (repeat' split) <;> simp

@[simp] theorem finishLoad_pending (s : State) :
    (finishLoad s).pending = s.pending := by
  unfold finishLoad
  (try dsimp only)
  (repeat' split) <;> simp

@[simp] theorem finishLoad_port (s : State) :
    (finishLoad s).port = s.port := by
  unfold finishLoad
  (try dsimp only)
  (repeat' split) <;> simp

@[simp] theorem onLoad_memory (serial : Nat) (f : CameraLoad → CameraLoad) (s : State) :
    (onLoad serial f s).memory = s.memory := by
  unfold onLoad
  (try dsimp only)
  (repeat' split) <;> simp

@[simp] theorem onLoad_pending (serial : Nat) (f : CameraLoad → CameraLoad) (s : State) :
    (onLoad serial f s).pending = s.pending := by
  unfold onLoad
  (try dsimp only)
  (repeat' split) <;> simp

@[simp] theorem onLoad_port (serial : Nat) (f : CameraLoad → CameraLoad) (s : State) :
    (onLoad serial f s).port = s.port := by
  unfold onLoad
  (try dsimp only)
  (repeat' split) <;> simp

@[simp] theorem scriptPartDone_memory (serial part : Nat) (bytes : List Byte) (s : State) :
    (scriptPartDone serial part bytes s).memory = s.memory := by
  unfold scriptPartDone
  (try dsimp only)
  (repeat' split) <;> simp

@[simp] theorem scriptPartDone_pending (serial part : Nat) (bytes : List Byte) (s : State) :
    (scriptPartDone serial part bytes s).pending = s.pending := by
  unfold scriptPartDone
  (try dsimp only)
  (repeat' split) <;> simp

@[simp] theorem scriptPartDone_port (serial part : Nat) (bytes : List Byte) (s : State) :
    (scriptPartDone serial part bytes s).port = s.port := by
  unfold scriptPartDone
  (try dsimp only)
  (repeat' split) <;> simp

@[simp] theorem loadFaulted_memory (serial : Nat) (s : State) :
    (loadFaulted serial s).memory = s.memory := by
  unfold loadFaulted
  (try dsimp only)
  (repeat' split) <;> simp

@[simp] theorem loadFaulted_pending (serial : Nat) (s : State) :
    (loadFaulted serial s).pending = s.pending := by
  unfold loadFaulted
  (try dsimp only)
  (repeat' split) <;> simp

@[simp] theorem loadFaulted_port (serial : Nat) (s : State) :
    (loadFaulted serial s).port = s.port := by
  unfold loadFaulted
  (try dsimp only)
  (repeat' split) <;> simp

@[simp] theorem loadFaulted_record (serial : Nat) (s : State) :
    (loadFaulted serial s).capture.record = s.capture.record := by
  unfold loadFaulted
  (try dsimp only)
  (repeat' split) <;> simp

@[simp] theorem takeMixerAsk_memory (a : Ask) (s : State) :
    (takeMixerAsk a s).memory = s.memory := by
  unfold takeMixerAsk
  (repeat' split) <;> first | rfl | simp

@[simp] theorem takeMixerAsk_pending (a : Ask) (s : State) :
    (takeMixerAsk a s).pending = s.pending := by
  unfold takeMixerAsk
  (repeat' split) <;> first | rfl | simp

@[simp] theorem takeMixerAsk_port (a : Ask) (s : State) :
    (takeMixerAsk a s).port = s.port := by
  unfold takeMixerAsk
  (repeat' split) <;> first | rfl | simp

@[simp] theorem takeMixerAsk_record (a : Ask) (s : State) :
    (takeMixerAsk a s).capture.record = s.capture.record := by
  unfold takeMixerAsk
  (try dsimp only)
  (repeat' split) <;> simp

@[simp] theorem mixerSetDone_memory (bytes : List Byte) (s : State) :
    (mixerSetDone bytes s).memory = s.memory := by
  unfold mixerSetDone
  (try dsimp only)
  (repeat' split) <;> simp

@[simp] theorem mixerSetDone_pending (bytes : List Byte) (s : State) :
    (mixerSetDone bytes s).pending = s.pending := by
  unfold mixerSetDone
  (try dsimp only)
  (repeat' split) <;> simp

@[simp] theorem mixerSetDone_port (bytes : List Byte) (s : State) :
    (mixerSetDone bytes s).port = s.port := by
  unfold mixerSetDone
  (try dsimp only)
  (repeat' split) <;> simp

@[simp] theorem mixerSetDone_record (bytes : List Byte) (s : State) :
    (mixerSetDone bytes s).capture.record = s.capture.record := by
  unfold mixerSetDone
  (try dsimp only)
  (repeat' split) <;> simp

@[simp] theorem answerMixerSet_memory (s : State) :
    (answerMixerSet s).memory = s.memory := by
  unfold answerMixerSet
  (try dsimp only)
  (repeat' split) <;> simp

@[simp] theorem answerMixerSet_pending (s : State) :
    (answerMixerSet s).pending = s.pending := by
  unfold answerMixerSet
  (try dsimp only)
  (repeat' split) <;> simp

@[simp] theorem answerMixerSet_port (s : State) :
    (answerMixerSet s).port = s.port := by
  unfold answerMixerSet
  (try dsimp only)
  (repeat' split) <;> simp

@[simp] theorem answerMixerSet_record (s : State) :
    (answerMixerSet s).capture.record = s.capture.record := by
  unfold answerMixerSet
  (try dsimp only)
  (repeat' split) <;> simp

@[simp] theorem takeSpareAsk_memory (n : Nat) (a : Ask) (s : State) :
    (takeSpareAsk n a s).memory = s.memory := by
  unfold takeSpareAsk
  (try dsimp only)
  (repeat' split) <;> simp

@[simp] theorem takeSpareAsk_pending (n : Nat) (a : Ask) (s : State) :
    (takeSpareAsk n a s).pending = s.pending := by
  unfold takeSpareAsk
  (try dsimp only)
  (repeat' split) <;> simp

@[simp] theorem takeSpareAsk_port (n : Nat) (a : Ask) (s : State) :
    (takeSpareAsk n a s).port = s.port := by
  unfold takeSpareAsk
  (try dsimp only)
  (repeat' split) <;> simp

@[simp] theorem takeSpareAsk_record (n : Nat) (a : Ask) (s : State) :
    (takeSpareAsk n a s).capture.record = s.capture.record := by
  unfold takeSpareAsk
  (try dsimp only)
  (repeat' split) <;> simp

@[simp] theorem askOwner_memory (n : Nat) (a : Ask) (s : State) :
    (askOwner n a s).memory = s.memory := by
  unfold askOwner
  (try dsimp only)
  (repeat' split) <;> simp

@[simp] theorem askOwner_pending (n : Nat) (a : Ask) (s : State) :
    (askOwner n a s).pending = s.pending := by
  unfold askOwner
  (try dsimp only)
  (repeat' split) <;> simp

@[simp] theorem askOwner_port (n : Nat) (a : Ask) (s : State) :
    (askOwner n a s).port = s.port := by
  unfold askOwner
  (try dsimp only)
  (repeat' split) <;> simp

@[simp] theorem askOwner_record (n : Nat) (a : Ask) (s : State) :
    (askOwner n a s).capture.record = s.capture.record := by
  unfold askOwner
  (try dsimp only)
  (repeat' split) <;> simp

@[simp] theorem pollAskBoard_memory (upper : Bool) (s : State) :
    (pollAskBoard upper s).memory = s.memory := by
  unfold pollAskBoard
  (try dsimp only)
  (repeat' split) <;> simp

@[simp] theorem pollAskBoard_pending (upper : Bool) (s : State) :
    (pollAskBoard upper s).pending = s.pending := by
  unfold pollAskBoard
  (try dsimp only)
  (repeat' split) <;> simp

@[simp] theorem pollAskBoard_port (upper : Bool) (s : State) :
    (pollAskBoard upper s).port = s.port := by
  unfold pollAskBoard
  (try dsimp only)
  (repeat' split) <;> simp

@[simp] theorem pollAskBoard_record (upper : Bool) (s : State) :
    (pollAskBoard upper s).capture.record = s.capture.record := by
  unfold pollAskBoard
  (try dsimp only)
  (repeat' split) <;> simp

@[simp] theorem handAsk_memory (n : Nat) (a : Ask) (s : State) :
    (handAsk n a s).memory = s.memory := by
  unfold handAsk
  (try dsimp only)
  (repeat' split) <;> simp

@[simp] theorem handAsk_pending (n : Nat) (a : Ask) (s : State) :
    (handAsk n a s).pending = s.pending := by
  unfold handAsk
  (try dsimp only)
  (repeat' split) <;> simp

@[simp] theorem handAsk_port (n : Nat) (a : Ask) (s : State) :
    (handAsk n a s).port = s.port := by
  unfold handAsk
  (try dsimp only)
  (repeat' split) <;> simp

@[simp] theorem handAsk_record (n : Nat) (a : Ask) (s : State) :
    (handAsk n a s).capture.record = s.capture.record := by
  unfold handAsk
  (try dsimp only)
  (repeat' split) <;> simp

@[simp] theorem handAskBoard_memory (upper : Bool) (bytes : List Byte) (s : State) :
    (handAskBoard upper bytes s).memory = s.memory := by
  unfold handAskBoard
  (try dsimp only)
  (repeat' split) <;> simp

@[simp] theorem handAskBoard_pending (upper : Bool) (bytes : List Byte) (s : State) :
    (handAskBoard upper bytes s).pending = s.pending := by
  unfold handAskBoard
  (try dsimp only)
  (repeat' split) <;> simp

@[simp] theorem handAskBoard_port (upper : Bool) (bytes : List Byte) (s : State) :
    (handAskBoard upper bytes s).port = s.port := by
  unfold handAskBoard
  (try dsimp only)
  (repeat' split) <;> simp

@[simp] theorem handAskBoard_record (upper : Bool) (bytes : List Byte) (s : State) :
    (handAskBoard upper bytes s).capture.record = s.capture.record := by
  unfold handAskBoard
  (try dsimp only)
  (repeat' split) <;> simp

/-! ## Machine/Status.lean -/

@[simp] theorem writeFields_memory (l : List StatusField) (s : State) :
    (writeFields l s).memory = s.memory := by
  unfold writeFields
  refine foldl_keeps State.memory _ ?_ _ _
  intros
  rfl

@[simp] theorem writeFields_pending (l : List StatusField) (s : State) :
    (writeFields l s).pending = s.pending := by
  unfold writeFields
  refine foldl_keeps State.pending _ ?_ _ _
  intros
  rfl

@[simp] theorem writeFields_port (l : List StatusField) (s : State) :
    (writeFields l s).port = s.port := by
  unfold writeFields
  refine foldl_keeps State.port _ ?_ _ _
  intros
  rfl

@[simp] theorem writeFields_record (l : List StatusField) (s : State) :
    (writeFields l s).capture.record = s.capture.record := by
  unfold writeFields
  (try dsimp only)
  (repeat' split) <;> simp

@[simp] theorem writeCounts_memory (lower data : List Nat) (l : List StatusField) (s : State) :
    (writeCounts lower data l s).memory = s.memory := by
  unfold writeCounts
  (try dsimp only)
  (repeat' split) <;> simp

@[simp] theorem writeCounts_pending (lower data : List Nat) (l : List StatusField) (s : State) :
    (writeCounts lower data l s).pending = s.pending := by
  unfold writeCounts
  (try dsimp only)
  (repeat' split) <;> simp

@[simp] theorem writeCounts_port (lower data : List Nat) (l : List StatusField) (s : State) :
    (writeCounts lower data l s).port = s.port := by
  unfold writeCounts
  (try dsimp only)
  (repeat' split) <;> simp

@[simp] theorem writeCounts_record (lower data : List Nat) (l : List StatusField) (s : State) :
    (writeCounts lower data l s).capture.record = s.capture.record := by
  unfold writeCounts
  (try dsimp only)
  (repeat' split) <;> simp

@[simp] theorem writeOrdered_memory (l : List StatusField) (s : State) :
    (writeOrdered l s).memory = s.memory := by
  unfold writeOrdered
  (try dsimp only)
  (repeat' split) <;> simp

@[simp] theorem writeOrdered_pending (l : List StatusField) (s : State) :
    (writeOrdered l s).pending = s.pending := by
  unfold writeOrdered
  (try dsimp only)
  (repeat' split) <;> simp

@[simp] theorem writeOrdered_port (l : List StatusField) (s : State) :
    (writeOrdered l s).port = s.port := by
  unfold writeOrdered
  (try dsimp only)
  (repeat' split) <;> simp

@[simp] theorem writeOrdered_record (l : List StatusField) (s : State) :
    (writeOrdered l s).capture.record = s.capture.record := by
  unfold writeOrdered
  (try dsimp only)
  (repeat' split) <;> simp

@[simp] theorem zeroCounts_memory (s : State) :
    (zeroCounts s).memory = s.memory := rfl

@[simp] theorem zeroCounts_pending (s : State) :
    (zeroCounts s).pending = s.pending := rfl

@[simp] theorem zeroCounts_port (s : State) :
    (zeroCounts s).port = s.port := rfl

@[simp] theorem zeroCounts_record (s : State) :
    (zeroCounts s).capture.record = s.capture.record := rfl

@[simp] theorem publishStatus_memory (before after : State) : (publishStatus before after).memory = after.memory := by
  unfold publishStatus
  split <;> simp

@[simp] theorem publishStatus_pending (before after : State) : (publishStatus before after).pending = after.pending := by
  unfold publishStatus
  split <;> simp

@[simp] theorem publishStatus_port (before after : State) : (publishStatus before after).port = after.port := by
  unfold publishStatus
  split <;> simp

@[simp] theorem publishStatus_record (before after : State) :
    (publishStatus before after).capture.record = after.capture.record := by
  unfold publishStatus
  split <;> simp

/-! ## Machine/Port.lean -/

@[simp] theorem failAttach_memory (r : AttachResult) (s : State) :
    (failAttach r s).memory = s.memory := by
  unfold failAttach
  (try dsimp only)
  (repeat' split) <;> simp

@[simp] theorem failAttach_pending (r : AttachResult) (s : State) :
    (failAttach r s).pending = s.pending := by
  unfold failAttach
  (try dsimp only)
  (repeat' split) <;> simp

@[simp] theorem failAttach_record (r : AttachResult) (s : State) :
    (failAttach r s).capture.record = s.capture.record := by
  unfold failAttach
  (try dsimp only)
  (repeat' split) <;> simp

@[simp] theorem startAttach_memory (s : State) :
    (startAttach s).memory = s.memory := by
  unfold startAttach
  (try dsimp only)
  (repeat' split) <;> simp

@[simp] theorem startAttach_pending (s : State) :
    (startAttach s).pending = s.pending := by
  unfold startAttach
  (try dsimp only)
  (repeat' split) <;> simp

@[simp] theorem startAttach_record (s : State) :
    (startAttach s).capture.record = s.capture.record := by
  unfold startAttach
  (try dsimp only)
  (repeat' split) <;> simp

@[simp] theorem attachBlocks_memory (s : State) :
    (attachBlocks s).memory = s.memory := by
  unfold attachBlocks
  (try dsimp only)
  (repeat' split) <;> simp

@[simp] theorem attachBlocks_pending (s : State) :
    (attachBlocks s).pending = s.pending := by
  unfold attachBlocks
  (try dsimp only)
  (repeat' split) <;> simp

@[simp] theorem attachBlocks_port (s : State) :
    (attachBlocks s).port = s.port := by
  unfold attachBlocks
  (try dsimp only)
  (repeat' split) <;> simp

@[simp] theorem attachBlocks_record (s : State) :
    (attachBlocks s).capture.record = s.capture.record := by
  unfold attachBlocks
  (try dsimp only)
  (repeat' split) <;> simp

@[simp] theorem becomeAttached_memory (s : State) :
    (becomeAttached s).memory = s.memory := by
  unfold becomeAttached
  (try dsimp only)
  (repeat' split) <;> simp

@[simp] theorem becomeAttached_pending (s : State) :
    (becomeAttached s).pending = s.pending := by
  unfold becomeAttached
  (try dsimp only)
  (repeat' split) <;> simp

@[simp] theorem becomeAttached_record (s : State) :
    (becomeAttached s).capture.record = s.capture.record := by
  unfold becomeAttached
  (try dsimp only)
  (repeat' split) <;> simp

@[simp] theorem headerDone_memory (bytes : List Byte) (s : State) :
    (headerDone bytes s).memory = s.memory := by
  unfold headerDone
  (try dsimp only)
  (repeat' split) <;> simp

@[simp] theorem headerDone_pending (bytes : List Byte) (s : State) :
    (headerDone bytes s).pending = s.pending := by
  unfold headerDone
  (try dsimp only)
  (repeat' split) <;> simp

@[simp] theorem headerDone_record (bytes : List Byte) (s : State) :
    (headerDone bytes s).capture.record = s.capture.record := by
  unfold headerDone
  (try dsimp only)
  (repeat' split) <;> simp

@[simp] theorem headerFault_memory (s : State) :
    (headerFault s).memory = s.memory := by
  unfold headerFault
  (try dsimp only)
  (repeat' split) <;> simp

@[simp] theorem headerFault_pending (s : State) :
    (headerFault s).pending = s.pending := by
  unfold headerFault
  (try dsimp only)
  (repeat' split) <;> simp

@[simp] theorem headerFault_record (s : State) :
    (headerFault s).capture.record = s.capture.record := by
  unfold headerFault
  (try dsimp only)
  (repeat' split) <;> simp

@[simp] theorem detachTraffic_memory (s : State) :
    (detachTraffic s).memory = s.memory := by
  rfl

@[simp] theorem detachTraffic_pending (s : State) :
    (detachTraffic s).pending = s.pending := by
  rfl

@[simp] theorem detachTraffic_port (s : State) :
    (detachTraffic s).port = s.port := by
  rfl

@[simp] theorem detachTraffic_record (s : State) :
    (detachTraffic s).capture.record = s.capture.record := rfl

@[simp] theorem detachBlocks_memory (stores : Bool) (s : State) :
    (detachBlocks stores s).memory = s.memory := by
  unfold detachBlocks
  (try dsimp only)
  (repeat' split) <;> simp

@[simp] theorem detachBlocks_pending (stores : Bool) (s : State) :
    (detachBlocks stores s).pending = s.pending := by
  unfold detachBlocks
  (try dsimp only)
  (repeat' split) <;> simp

@[simp] theorem detachBlocks_port (stores : Bool) (s : State) :
    (detachBlocks stores s).port = s.port := by
  unfold detachBlocks
  (try dsimp only)
  (repeat' split) <;> simp

@[simp] theorem detachBlocks_record (stores : Bool) (s : State) :
    (detachBlocks stores s).capture.record = s.capture.record := by
  unfold detachBlocks
  (try dsimp only)
  (repeat' split) <;> simp

@[simp] theorem detachPart_memory (r : AttachResult) (s : State) :
    (detachPart r s).memory = s.memory := by
  unfold detachPart
  (try dsimp only)
  (repeat' split) <;> simp

@[simp] theorem detachPart_pending (r : AttachResult) (s : State) :
    (detachPart r s).pending = s.pending := by
  unfold detachPart
  (try dsimp only)
  (repeat' split) <;> simp

@[simp] theorem detachPart_record (r : AttachResult) (s : State) :
    (detachPart r s).capture.record = s.capture.record := by
  unfold detachPart
  (try dsimp only)
  (repeat' split) <;> simp

@[simp] theorem detachCommand_memory (s : State) :
    (detachCommand s).memory = s.memory := by
  unfold detachCommand
  (try dsimp only)
  (repeat' split) <;> simp

@[simp] theorem detachCommand_pending (s : State) :
    (detachCommand s).pending = s.pending := by
  unfold detachCommand
  (try dsimp only)
  (repeat' split) <;> simp

@[simp] theorem detachCommand_record (s : State) :
    (detachCommand s).capture.record = s.capture.record := by
  unfold detachCommand
  (try dsimp only)
  (repeat' split) <;> simp

@[simp] theorem selfDetach_memory (c : Client) (s : State) :
    (selfDetach c s).memory = s.memory := by
  unfold selfDetach
  (try dsimp only)
  (repeat' split) <;> simp

@[simp] theorem selfDetach_pending (c : Client) (s : State) :
    (selfDetach c s).pending = s.pending := by
  unfold selfDetach
  (try dsimp only)
  (repeat' split) <;> simp

@[simp] theorem selfDetach_record (c : Client) (s : State) :
    (selfDetach c s).capture.record = s.capture.record := by
  unfold selfDetach
  (try dsimp only)
  (repeat' split) <;> simp

@[simp] theorem clearCounts_memory (s : State) :
    (clearCounts s).memory = s.memory := by
  unfold clearCounts
  (try dsimp only)
  (repeat' split) <;> simp

@[simp] theorem clearCounts_pending (s : State) :
    (clearCounts s).pending = s.pending := by
  unfold clearCounts
  (try dsimp only)
  (repeat' split) <;> simp

@[simp] theorem clearCounts_port (s : State) :
    (clearCounts s).port = s.port := by
  unfold clearCounts
  (try dsimp only)
  (repeat' split) <;> simp

@[simp] theorem clearCounts_record (s : State) :
    (clearCounts s).capture.record = s.capture.record := by
  unfold clearCounts
  (try dsimp only)
  (repeat' split) <;> simp

@[simp] theorem setQuiet_memory (q : Bool) (s : State) :
    (setQuiet q s).memory = s.memory := by
  unfold setQuiet
  exact withNeed_memory _ _ rfl

@[simp] theorem setQuiet_pending (q : Bool) (s : State) :
    (setQuiet q s).pending = s.pending := by
  unfold setQuiet
  exact withNeed_pending _ _ rfl

@[simp] theorem setQuiet_record (q : Bool) (s : State) : (setQuiet q s).capture.record = s.capture.record :=
  withNeed_record _ _ rfl

@[simp] theorem quietBlocks_memory (s : State) :
    (quietBlocks s).memory = s.memory := by
  unfold quietBlocks
  (try dsimp only)
  (repeat' split) <;> simp

@[simp] theorem quietBlocks_pending (s : State) :
    (quietBlocks s).pending = s.pending := by
  unfold quietBlocks
  (try dsimp only)
  (repeat' split) <;> simp

@[simp] theorem quietBlocks_record (s : State) :
    (quietBlocks s).capture.record = s.capture.record := by
  unfold quietBlocks
  (try dsimp only)
  (repeat' split) <;> simp

@[simp] theorem wakeCommand_memory (s : State) :
    (wakeCommand s).memory = s.memory := by
  unfold wakeCommand
  (try dsimp only)
  (repeat' split) <;> simp

@[simp] theorem wakeCommand_pending (s : State) :
    (wakeCommand s).pending = s.pending := by
  unfold wakeCommand
  (try dsimp only)
  (repeat' split) <;> simp

@[simp] theorem wakeCommand_record (s : State) :
    (wakeCommand s).capture.record = s.capture.record := by
  unfold wakeCommand
  (try dsimp only)
  (repeat' split) <;> simp

@[simp] theorem linkResetCommand_memory (s : State) :
    (linkResetCommand s).memory = s.memory := by
  unfold linkResetCommand
  (try dsimp only)
  (repeat' split) <;> simp

@[simp] theorem linkResetCommand_pending (s : State) :
    (linkResetCommand s).pending = s.pending := by
  unfold linkResetCommand
  (try dsimp only)
  (repeat' split) <;> simp

@[simp] theorem linkResetCommand_record (s : State) :
    (linkResetCommand s).capture.record = s.capture.record := by
  unfold linkResetCommand
  (try dsimp only)
  (repeat' split) <;> simp

@[simp] theorem coldStartCommand_memory (s : State) :
    (coldStartCommand s).memory = s.memory := by
  rfl

@[simp] theorem coldStartCommand_pending (s : State) :
    (coldStartCommand s).pending = s.pending := by
  rfl

/-! ## Machine/Traffic.lean -/

@[simp] theorem advanceFetch_memory (d : Display) (n : Nat) (s : State) :
    (advanceFetch d n s).memory = s.memory := by
  unfold advanceFetch
  (try dsimp only)
  (repeat' split) <;> simp

@[simp] theorem advanceFetch_pending (d : Display) (n : Nat) (s : State) :
    (advanceFetch d n s).pending = s.pending := by
  unfold advanceFetch
  (try dsimp only)
  (repeat' split) <;> simp

@[simp] theorem advanceFetch_port (d : Display) (n : Nat) (s : State) :
    (advanceFetch d n s).port = s.port := by
  unfold advanceFetch
  (try dsimp only)
  (repeat' split) <;> simp

@[simp] theorem advanceFetch_record (d : Display) (n : Nat) (s : State) :
    (advanceFetch d n s).capture.record = s.capture.record := by
  unfold advanceFetch
  (try dsimp only)
  (repeat' split) <;> simp

@[simp] theorem takeGranted_memory (r : Request) (s : State) :
    (takeGranted r s).memory = s.memory := by
  unfold takeGranted
  (try dsimp only)
  (repeat' split) <;> simp

@[simp] theorem takeGranted_pending (r : Request) (s : State) :
    (takeGranted r s).pending = s.pending := by
  unfold takeGranted
  (try dsimp only)
  (repeat' split) <;> simp

@[simp] theorem takeGranted_port (r : Request) (s : State) :
    (takeGranted r s).port = s.port := by
  unfold takeGranted
  (try dsimp only)
  (repeat' split) <;> simp

@[simp] theorem takeGranted_record (r : Request) (s : State) :
    (takeGranted r s).capture.record = s.capture.record := by
  unfold takeGranted
  (try dsimp only)
  (repeat' split) <;> simp

@[simp] theorem issue_memory (r : Request) (s : State) :
    (issue r s).memory = s.memory := by
  unfold issue
  (try dsimp only)
  (repeat' split) <;> simp

@[simp] theorem issue_pending (r : Request) (s : State) :
    (issue r s).pending = s.pending := by
  unfold issue
  (try dsimp only)
  (repeat' split) <;> simp

@[simp] theorem issue_port (r : Request) (s : State) :
    (issue r s).port = s.port := by
  unfold issue
  (try dsimp only)
  (repeat' split) <;> simp

@[simp] theorem issue_record (r : Request) (s : State) :
    (issue r s).capture.record = s.capture.record := by
  unfold issue
  (try dsimp only)
  (repeat' split) <;> simp

@[simp] theorem grant_memory (s : State) :
    (grant s).memory = s.memory := by
  unfold grant
  (try dsimp only)
  (repeat' split) <;> simp

@[simp] theorem grant_pending (s : State) :
    (grant s).pending = s.pending := by
  unfold grant
  (try dsimp only)
  (repeat' split) <;> simp

@[simp] theorem grant_port (s : State) :
    (grant s).port = s.port := by
  unfold grant
  (try dsimp only)
  (repeat' split) <;> simp

@[simp] theorem grant_record (s : State) :
    (grant s).capture.record = s.capture.record := by
  unfold grant
  (try dsimp only)
  (repeat' split) <;> simp

@[simp] theorem retire_memory (tag : Nat) (s : State) :
    (retire tag s).memory = s.memory := by
  unfold retire
  (try dsimp only)
  (repeat' split) <;> simp

@[simp] theorem retire_pending (tag : Nat) (s : State) :
    (retire tag s).pending = s.pending := by
  unfold retire
  (try dsimp only)
  (repeat' split) <;> simp

@[simp] theorem retire_port (tag : Nat) (s : State) :
    (retire tag s).port = s.port := by
  unfold retire
  (try dsimp only)
  (repeat' split) <;> simp

@[simp] theorem retire_record (tag : Nat) (s : State) :
    (retire tag s).capture.record = s.capture.record := by
  unfold retire
  (try dsimp only)
  (repeat' split) <;> simp

@[simp] theorem completeOk_memory (c : Client) (s : State) :
    (completeOk c s).memory = s.memory := by
  unfold completeOk
  (try dsimp only)
  (repeat' split) <;> simp

@[simp] theorem completeOk_pending (c : Client) (s : State) :
    (completeOk c s).pending = s.pending := by
  unfold completeOk
  (try dsimp only)
  (repeat' split) <;> simp

@[simp] theorem completeOk_port (c : Client) (s : State) :
    (completeOk c s).port = s.port := by
  unfold completeOk
  (try dsimp only)
  (repeat' split) <;> simp

@[simp] theorem completeOk_record (c : Client) (s : State) :
    (completeOk c s).capture.record = s.capture.record := by
  unfold completeOk
  (try dsimp only)
  (repeat' split) <;> simp

@[simp] theorem finishTray_memory (s : State) :
    (finishTray s).memory = s.memory := by
  unfold finishTray
  (try dsimp only)
  (repeat' split) <;> simp

@[simp] theorem finishTray_pending (s : State) :
    (finishTray s).pending = s.pending := by
  unfold finishTray
  (try dsimp only)
  (repeat' split) <;> simp

@[simp] theorem finishTray_port (s : State) :
    (finishTray s).port = s.port := by
  unfold finishTray
  (try dsimp only)
  (repeat' split) <;> simp

@[simp] theorem finishTray_record (s : State) :
    (finishTray s).capture.record = s.capture.record := by
  unfold finishTray
  (try dsimp only)
  (repeat' split) <;> simp

@[simp] theorem trayHalf_memory (upper : Bool) (bytes : List Byte) (fault : Bool) (s : State) :
    (trayHalf upper bytes fault s).memory = s.memory := by
  unfold trayHalf
  (try dsimp only)
  (repeat' split) <;> simp

@[simp] theorem trayHalf_pending (upper : Bool) (bytes : List Byte) (fault : Bool) (s : State) :
    (trayHalf upper bytes fault s).pending = s.pending := by
  unfold trayHalf
  (try dsimp only)
  (repeat' split) <;> simp

@[simp] theorem trayHalf_port (upper : Bool) (bytes : List Byte) (fault : Bool) (s : State) :
    (trayHalf upper bytes fault s).port = s.port := by
  unfold trayHalf
  (try dsimp only)
  (repeat' split) <;> simp

@[simp] theorem trayHalf_record (upper : Bool) (bytes : List Byte) (fault : Bool) (s : State) :
    (trayHalf upper bytes fault s).capture.record = s.capture.record := by
  unfold trayHalf
  (try dsimp only)
  (repeat' split) <;> simp

@[simp] theorem clipDone_memory (serial take repetition position : Nat) (bytes : List Byte) (s : State) :
    (clipDone serial take repetition position bytes s).memory = s.memory := by
  unfold clipDone
  (try dsimp only)
  (repeat' split) <;> simp

@[simp] theorem clipDone_pending (serial take repetition position : Nat) (bytes : List Byte) (s : State) :
    (clipDone serial take repetition position bytes s).pending = s.pending := by
  unfold clipDone
  (try dsimp only)
  (repeat' split) <;> simp

@[simp] theorem clipDone_port (serial take repetition position : Nat) (bytes : List Byte) (s : State) :
    (clipDone serial take repetition position bytes s).port = s.port := by
  unfold clipDone
  (try dsimp only)
  (repeat' split) <;> simp

@[simp] theorem clipDone_record (serial take repetition position : Nat) (bytes : List Byte) (s : State) :
    (clipDone serial take repetition position bytes s).capture.record = s.capture.record := by
  unfold clipDone
  (try dsimp only)
  (repeat' split) <;> simp

@[simp] theorem onCopies_memory (f : PollCopies → PollCopies) (s : State) :
    (onCopies f s).memory = s.memory := by
  unfold onCopies
  (try dsimp only)
  (repeat' split) <;> simp

@[simp] theorem onCopies_pending (f : PollCopies → PollCopies) (s : State) :
    (onCopies f s).pending = s.pending := by
  unfold onCopies
  (try dsimp only)
  (repeat' split) <;> simp

@[simp] theorem onCopies_port (f : PollCopies → PollCopies) (s : State) :
    (onCopies f s).port = s.port := by
  unfold onCopies
  (try dsimp only)
  (repeat' split) <;> simp

@[simp] theorem onCopies_record (f : PollCopies → PollCopies) (s : State) :
    (onCopies f s).capture.record = s.capture.record := by
  unfold onCopies
  (try dsimp only)
  (repeat' split) <;> simp

@[simp] theorem handRead_memory (what : ReadOf) (bytes : List Byte) (s : State) :
    (handRead what bytes s).memory = s.memory := by
  unfold handRead
  (try dsimp only)
  (repeat' split) <;> simp

@[simp] theorem handRead_pending (what : ReadOf) (bytes : List Byte) (s : State) :
    (handRead what bytes s).pending = s.pending := by
  unfold handRead
  (try dsimp only)
  (repeat' split) <;> simp

@[simp] theorem handReadFault_memory (what : ReadOf) (s : State) :
    (handReadFault what s).memory = s.memory := by
  unfold handReadFault
  (try dsimp only)
  (repeat' split) <;> simp

@[simp] theorem handReadFault_pending (what : ReadOf) (s : State) :
    (handReadFault what s).pending = s.pending := by
  unfold handReadFault
  (try dsimp only)
  (repeat' split) <;> simp

@[simp] theorem handReadFault_record (what : ReadOf) (s : State) :
    (handReadFault what s).capture.record = s.capture.record := by
  unfold handReadFault
  (try dsimp only)
  (repeat' split) <;> simp

@[simp] theorem countFault_memory (i : Issued) (k : FaultKind) (s : State) :
    (countFault i k s).memory = s.memory := by
  unfold countFault
  (try dsimp only)
  (repeat' split) <;> simp

@[simp] theorem countFault_pending (i : Issued) (k : FaultKind) (s : State) :
    (countFault i k s).pending = s.pending := by
  unfold countFault
  (try dsimp only)
  (repeat' split) <;> simp

@[simp] theorem countFault_port (i : Issued) (k : FaultKind) (s : State) :
    (countFault i k s).port = s.port := by
  unfold countFault
  (try dsimp only)
  (repeat' split) <;> simp

@[simp] theorem countFault_record (i : Issued) (k : FaultKind) (s : State) :
    (countFault i k s).capture.record = s.capture.record := by
  unfold countFault
  (try dsimp only)
  (repeat' split) <;> simp

@[simp] theorem remakeStatus_memory (r : Request) (offset : Nat) (s : State) :
    (remakeStatus r offset s).memory = s.memory := by
  unfold remakeStatus
  (try dsimp only)
  (repeat' split) <;> simp

@[simp] theorem remakeStatus_pending (r : Request) (offset : Nat) (s : State) :
    (remakeStatus r offset s).pending = s.pending := by
  unfold remakeStatus
  (try dsimp only)
  (repeat' split) <;> simp

@[simp] theorem remakeStatus_port (r : Request) (offset : Nat) (s : State) :
    (remakeStatus r offset s).port = s.port := by
  unfold remakeStatus
  (try dsimp only)
  (repeat' split) <;> simp

@[simp] theorem remakeStatus_record (r : Request) (offset : Nat) (s : State) :
    (remakeStatus r offset s).capture.record = s.capture.record := by
  unfold remakeStatus
  (try dsimp only)
  (repeat' split) <;> simp

@[simp] theorem handFault_memory (i : Issued) (s : State) :
    (handFault i s).memory = s.memory := by
  unfold handFault
  (try dsimp only)
  (repeat' split) <;> simp

@[simp] theorem handFault_pending (i : Issued) (s : State) :
    (handFault i s).pending = s.pending := by
  unfold handFault
  (try dsimp only)
  (repeat' split) <;> simp

@[simp] theorem handFault_record (i : Issued) (s : State) :
    (handFault i s).capture.record = s.capture.record := by
  unfold handFault
  (try dsimp only)
  (repeat' split) <;> simp

@[simp] theorem requestFault_memory (i : Issued) (k : FaultKind) (s : State) :
    (requestFault i k s).memory = s.memory := by
  unfold requestFault
  (try dsimp only)
  (repeat' split) <;> simp

@[simp] theorem requestFault_pending (i : Issued) (k : FaultKind) (s : State) :
    (requestFault i k s).pending = s.pending := by
  unfold requestFault
  (try dsimp only)
  (repeat' split) <;> simp

@[simp] theorem requestFault_record (i : Issued) (k : FaultKind) (s : State) :
    (requestFault i k s).capture.record = s.capture.record := by
  unfold requestFault
  (try dsimp only)
  (repeat' split) <;> simp

@[simp] theorem readOk_memory (i : Issued) (what : ReadOf) (bytes : List Byte) (s : State) :
    (readOk i what bytes s).memory = s.memory := by
  unfold readOk
  (try dsimp only)
  (repeat' split) <;> simp

@[simp] theorem readOk_pending (i : Issued) (what : ReadOf) (bytes : List Byte) (s : State) :
    (readOk i what bytes s).pending = s.pending := by
  unfold readOk
  (try dsimp only)
  (repeat' split) <;> simp

@[simp] theorem completeRead_memory (kind : ReadOf → Bool) (tag : Nat) (c : Completion) (s : State) :
    (completeRead kind tag c s).memory = s.memory := by
  unfold completeRead
  (try dsimp only)
  (repeat' split) <;> simp

@[simp] theorem completeRead_pending (kind : ReadOf → Bool) (tag : Nat) (c : Completion) (s : State) :
    (completeRead kind tag c s).pending = s.pending := by
  unfold completeRead
  (try dsimp only)
  (repeat' split) <;> simp

@[simp] theorem writeHost_pending (addr : Addr) (bytes : List Byte) (s : State) :
    (writeHost addr bytes s).pending = s.pending := rfl

@[simp] theorem writeHost_port (addr : Addr) (bytes : List Byte) (s : State) :
    (writeHost addr bytes s).port = s.port := rfl

@[simp] theorem writeHost_record (addr : Addr) (bytes : List Byte) (s : State) :
    (writeHost addr bytes s).capture.record = s.capture.record := rfl

@[simp] theorem storeSent_pending (s : State) :
    (storeSent s).pending = s.pending := by
  unfold storeSent
  (try dsimp only)
  (repeat' split) <;> simp

@[simp] theorem storeSent_port (s : State) :
    (storeSent s).port = s.port := by
  unfold storeSent
  (try dsimp only)
  (repeat' split) <;> simp

@[simp] theorem storeSent_record (s : State) :
    (storeSent s).capture.record = s.capture.record := by
  unfold storeSent
  (try dsimp only)
  (repeat' split) <;> simp

@[simp] theorem statusSent_pending (s : State) :
    (statusSent s).pending = s.pending := by
  unfold statusSent
  (try dsimp only)
  (repeat' split) <;> simp

@[simp] theorem statusSent_port (s : State) :
    (statusSent s).port = s.port := by
  unfold statusSent
  (try dsimp only)
  (repeat' split) <;> simp

@[simp] theorem statusSent_record (s : State) :
    (statusSent s).capture.record = s.capture.record := by
  unfold statusSent
  (try dsimp only)
  (repeat' split) <;> simp

@[simp] theorem faultAt_memory (tag : Nat) (k : FaultKind) (s : State) :
    (faultAt tag k s).memory = s.memory := by
  unfold faultAt
  (try dsimp only)
  (repeat' split) <;> simp

@[simp] theorem faultAt_pending (tag : Nat) (k : FaultKind) (s : State) :
    (faultAt tag k s).pending = s.pending := by
  unfold faultAt
  (try dsimp only)
  (repeat' split) <;> simp

@[simp] theorem faultAt_record (tag : Nat) (k : FaultKind) (s : State) :
    (faultAt tag k s).capture.record = s.capture.record := by
  unfold faultAt
  (try dsimp only)
  (repeat' split) <;> simp

@[simp] theorem timeoutAt_memory (tag : Nat) (s : State) :
    (timeoutAt tag s).memory = s.memory := by
  unfold timeoutAt
  (try dsimp only)
  (repeat' split) <;> simp

@[simp] theorem timeoutAt_pending (tag : Nat) (s : State) :
    (timeoutAt tag s).pending = s.pending := by
  unfold timeoutAt
  (try dsimp only)
  (repeat' split) <;> simp

@[simp] theorem timeoutAt_record (tag : Nat) (s : State) :
    (timeoutAt tag s).capture.record = s.capture.record := by
  unfold timeoutAt
  (try dsimp only)
  (repeat' split) <;> simp

@[simp] theorem sendTimeoutOf_memory (s : State) :
    (sendTimeoutOf s).memory = s.memory := by
  unfold sendTimeoutOf
  (try dsimp only)
  (repeat' split) <;> simp

@[simp] theorem sendTimeoutOf_pending (s : State) :
    (sendTimeoutOf s).pending = s.pending := by
  unfold sendTimeoutOf
  (try dsimp only)
  (repeat' split) <;> simp

@[simp] theorem sendTimeoutOf_record (s : State) :
    (sendTimeoutOf s).capture.record = s.capture.record := by
  unfold sendTimeoutOf
  (try dsimp only)
  (repeat' split) <;> simp

@[simp] theorem sendMessage_memory (s : State) :
    (sendMessage s).memory = s.memory := by
  unfold sendMessage
  (try dsimp only)
  (repeat' split) <;> simp

@[simp] theorem sendMessage_pending (s : State) :
    (sendMessage s).pending = s.pending := by
  unfold sendMessage
  (try dsimp only)
  (repeat' split) <;> simp

@[simp] theorem sendMessage_port (s : State) :
    (sendMessage s).port = s.port := by
  unfold sendMessage
  (try dsimp only)
  (repeat' split) <;> simp

@[simp] theorem sendMessage_record (s : State) :
    (sendMessage s).capture.record = s.capture.record := by
  unfold sendMessage
  (try dsimp only)
  (repeat' split) <;> simp

/-! ## Machine/Clock.lean -/

@[simp] theorem beginBlock_memory (s : State) :
    (beginBlock s).memory = s.memory := by
  unfold beginBlock
  (try dsimp only)
  (repeat' split) <;> simp

@[simp] theorem beginBlock_pending (s : State) :
    (beginBlock s).pending = s.pending := by
  unfold beginBlock
  (try dsimp only)
  (repeat' split) <;> simp

@[simp] theorem beginBlock_record (s : State) :
    (beginBlock s).capture.record = s.capture.record := by
  unfold beginBlock
  (try dsimp only)
  (repeat' split) <;> simp

@[simp] theorem pollTray_memory (s : State) :
    (pollTray s).memory = s.memory := by
  unfold pollTray
  (try dsimp only)
  (repeat' split) <;> simp

@[simp] theorem pollTray_pending (s : State) :
    (pollTray s).pending = s.pending := by
  unfold pollTray
  (try dsimp only)
  (repeat' split) <;> simp

@[simp] theorem pollTray_port (s : State) :
    (pollTray s).port = s.port := by
  unfold pollTray
  (try dsimp only)
  (repeat' split) <;> simp

@[simp] theorem pollTray_record (s : State) :
    (pollTray s).capture.record = s.capture.record := by
  unfold pollTray
  (try dsimp only)
  (repeat' split) <;> simp

@[simp] theorem pollBlockEnd_memory (s : State) :
    (pollBlockEnd s).memory = s.memory := by
  unfold pollBlockEnd
  (try dsimp only)
  (repeat' split) <;> simp

@[simp] theorem pollBlockEnd_pending (s : State) :
    (pollBlockEnd s).pending = s.pending := by
  unfold pollBlockEnd
  (try dsimp only)
  (repeat' split) <;> simp

@[simp] theorem pollBlockEnd_port (s : State) :
    (pollBlockEnd s).port = s.port := by
  unfold pollBlockEnd
  (try dsimp only)
  (repeat' split) <;> simp

@[simp] theorem pollBlockEnd_record (s : State) :
    (pollBlockEnd s).capture.record = s.capture.record := by
  unfold pollBlockEnd
  (try dsimp only)
  (repeat' split) <;> simp

@[simp] theorem chimeBoundary_memory (s : State) :
    (chimeBoundary s).memory = s.memory := by
  unfold chimeBoundary
  (try dsimp only)
  (repeat' split) <;> simp

@[simp] theorem chimeBoundary_pending (s : State) :
    (chimeBoundary s).pending = s.pending := by
  unfold chimeBoundary
  (try dsimp only)
  (repeat' split) <;> simp

@[simp] theorem chimeBoundary_port (s : State) :
    (chimeBoundary s).port = s.port := by
  unfold chimeBoundary
  (try dsimp only)
  (repeat' split) <;> simp

@[simp] theorem chimeBoundary_record (s : State) :
    (chimeBoundary s).capture.record = s.capture.record := by
  unfold chimeBoundary
  (try dsimp only)
  (repeat' split) <;> simp

@[simp] theorem blockEnd_memory (s : State) :
    (blockEnd s).memory = s.memory := by
  unfold blockEnd
  (try dsimp only)
  (repeat' split) <;> simp

@[simp] theorem blockEnd_pending (s : State) :
    (blockEnd s).pending = s.pending := by
  unfold blockEnd
  (try dsimp only)
  (repeat' split) <;> simp

@[simp] theorem blockEnd_record (s : State) :
    (blockEnd s).capture.record = s.capture.record := by
  unfold blockEnd
  (try dsimp only)
  (repeat' split) <;> simp

@[simp] theorem runTimers_memory (s : State) : (runTimers s).memory = s.memory := rfl

@[simp] theorem runTimers_pending (s : State) : (runTimers s).pending = s.pending := rfl

@[simp] theorem runTimers_port (s : State) : (runTimers s).port = s.port := rfl

@[simp] theorem runTimers_record (s : State) : (runTimers s).capture.record = s.capture.record := rfl

@[simp] theorem debounceExpires_memory (s : State) :
    (debounceExpires s).memory = s.memory := by
  unfold debounceExpires
  (try dsimp only)
  (repeat' split) <;> simp

@[simp] theorem debounceExpires_pending (s : State) :
    (debounceExpires s).pending = s.pending := by
  unfold debounceExpires
  (try dsimp only)
  (repeat' split) <;> simp

@[simp] theorem debounceExpires_port (s : State) :
    (debounceExpires s).port = s.port := by
  unfold debounceExpires
  (try dsimp only)
  (repeat' split) <;> simp

@[simp] theorem debounceExpires_record (s : State) :
    (debounceExpires s).capture.record = s.capture.record := by
  unfold debounceExpires
  (try dsimp only)
  (repeat' split) <;> simp

@[simp] theorem lingerExpires_memory (s : State) :
    (lingerExpires s).memory = s.memory := by
  unfold lingerExpires
  (try dsimp only)
  (repeat' split) <;> simp

@[simp] theorem lingerExpires_pending (s : State) :
    (lingerExpires s).pending = s.pending := by
  unfold lingerExpires
  (try dsimp only)
  (repeat' split) <;> simp

@[simp] theorem lingerExpires_port (s : State) :
    (lingerExpires s).port = s.port := by
  unfold lingerExpires
  (try dsimp only)
  (repeat' split) <;> simp

@[simp] theorem lingerExpires_record (s : State) :
    (lingerExpires s).capture.record = s.capture.record := by
  unfold lingerExpires
  (try dsimp only)
  (repeat' split) <;> simp

@[simp] theorem captureExpiries_memory (s : State) :
    (captureExpiries s).memory = s.memory := by
  unfold captureExpiries
  (try dsimp only)
  (repeat' split) <;> simp

@[simp] theorem captureExpiries_pending (s : State) :
    (captureExpiries s).pending = s.pending := by
  unfold captureExpiries
  (try dsimp only)
  (repeat' split) <;> simp

@[simp] theorem captureExpiries_port (s : State) :
    (captureExpiries s).port = s.port := by
  unfold captureExpiries
  (try dsimp only)
  (repeat' split) <;> simp

@[simp] theorem captureExpiries_record (s : State) :
    (captureExpiries s).capture.record = s.capture.record := by
  unfold captureExpiries
  (try dsimp only)
  (repeat' split) <;> simp

@[simp] theorem viewExpiries_memory (s : State) :
    (viewExpiries s).memory = s.memory := by
  unfold viewExpiries
  (try dsimp only)
  (repeat' split) <;> simp

@[simp] theorem viewExpiries_pending (s : State) :
    (viewExpiries s).pending = s.pending := by
  unfold viewExpiries
  (try dsimp only)
  (repeat' split) <;> simp

@[simp] theorem viewExpiries_port (s : State) :
    (viewExpiries s).port = s.port := by
  unfold viewExpiries
  (try dsimp only)
  (repeat' split) <;> simp

@[simp] theorem viewExpiries_record (s : State) :
    (viewExpiries s).capture.record = s.capture.record := by
  unfold viewExpiries
  (try dsimp only)
  (repeat' split) <;> simp

@[simp] theorem ageRequests_memory (s : State) :
    (ageRequests s).memory = s.memory := by
  unfold ageRequests
  (try dsimp only)
  (repeat' split) <;> simp

@[simp] theorem ageRequests_pending (s : State) :
    (ageRequests s).pending = s.pending := by
  unfold ageRequests
  (try dsimp only)
  (repeat' split) <;> simp

@[simp] theorem ageRequests_record (s : State) :
    (ageRequests s).capture.record = s.capture.record := by
  unfold ageRequests
  (try dsimp only)
  (repeat' split) <;> simp

@[simp] theorem outputSample_memory (n : Nat) (s : State) :
    (outputSample n s).memory = s.memory := by
  unfold outputSample
  (try dsimp only)
  (repeat' split) <;> simp

@[simp] theorem outputSample_pending (n : Nat) (s : State) :
    (outputSample n s).pending = s.pending := by
  unfold outputSample
  (try dsimp only)
  (repeat' split) <;> simp

@[simp] theorem outputSample_port (n : Nat) (s : State) :
    (outputSample n s).port = s.port := by
  unfold outputSample
  (try dsimp only)
  (repeat' split) <;> simp

@[simp] theorem outputSample_record (n : Nat) (s : State) :
    (outputSample n s).capture.record = s.capture.record := by
  unfold outputSample
  (try dsimp only)
  (repeat' split) <;> simp

@[simp] theorem tick_memory (s : State) :
    (tick s).memory = s.memory := by
  unfold tick
  (try dsimp only)
  (repeat' split) <;> simp

@[simp] theorem tick_pending (s : State) :
    (tick s).pending = s.pending := by
  unfold tick
  (try dsimp only)
  (repeat' split) <;> simp

@[simp] theorem tick_record (s : State) :
    (tick s).capture.record = s.capture.record := by
  unfold tick
  (try dsimp only)
  (repeat' split) <;> simp

end Sys2Proof.Machine
end

