-- ==== Sys2Proof/Laws/Memory.lean ====
section
/-! SUPPORT. The bytes written to host memory: reading after writing, and the canonical form kept by every memory
operation. -/

namespace Sys2Proof.Machine

/-- A byte just put is what its address reads as. -/
@[simp] theorem Memory.read_put_same (m : Memory) (a : Nat) (b : Byte) : (Memory.put m a b).read a = some b := by
  induction m with
  | nil => simp [Memory.put, Memory.read]
  | cons c m ih =>
    obtain ⟨k, v⟩ := c
    unfold Memory.put
    split
    · simp [Memory.read]
    · split
      · simp [Memory.read]
      · simp only [Memory.read]
        rw [if_neg (by omega), ih]

/-- A put leaves every other address alone. -/
theorem Memory.read_put_other (m : Memory) (a x : Nat) (b : Byte) (h : x ≠ a) :
    (Memory.put m a b).read x = Memory.read m x := by
  induction m with
  | nil => simp [Memory.put, Memory.read, Ne.symm h]
  | cons c m ih =>
    obtain ⟨k, v⟩ := c
    unfold Memory.put
    split
    · simp [Memory.read, Ne.symm h]
    · split
      · rename_i h1 h2
        subst h2
        simp [Memory.read, Ne.symm h]
      · simp only [Memory.read, ih]

/-- What put puts in a list comes from the list or is the byte put. -/
theorem Memory.mem_put {m : Memory} {a : Nat} {b : Byte} {c : Host.Cell} (h : c ∈ Memory.put m a b) :
    c = (a, b) ∨ c ∈ m := by
  induction m with
  | nil => simpa [Memory.put] using h
  | cons d m ih =>
    obtain ⟨k, v⟩ := d
    unfold Memory.put at h
    split at h
    · simpa using h
    · split at h
      · exact (List.mem_cons.1 h).imp id fun h => List.mem_cons_of_mem _ h
      · rcases List.mem_cons.1 h with rfl | h
        · exact .inr List.mem_cons_self
        · exact (ih h).imp id fun h => List.mem_cons_of_mem _ h

/-- Putting a byte keeps the canonical form. -/
theorem Memory.put_wf {m : Memory} (a : Nat) (b : Byte) (h : m.wf) : (Memory.put m a b).wf := by
  induction m with
  | nil => simp [Memory.put, Memory.wf]
  | cons d m ih =>
    obtain ⟨k, v⟩ := d
    obtain ⟨h1, h2⟩ := List.pairwise_cons.1 h
    unfold Memory.put
    split
    · rename_i lt
      refine List.pairwise_cons.2 ⟨fun c hc => ?_, h⟩
      rcases List.mem_cons.1 hc with rfl | hc
      · exact lt
      · exact Nat.lt_trans lt (h1 c hc)
    · split
      · rename_i eq
        subst eq
        exact List.pairwise_cons.2 ⟨fun c hc => h1 c hc, h2⟩
      · refine List.pairwise_cons.2 ⟨fun c hc => ?_, ih h2⟩
        rcases Memory.mem_put hc with rfl | hc
        · show k < a
          omega
        · exact h1 c hc

/-- Writing a run of bytes keeps the canonical form. -/
theorem Memory.write_wf {m : Memory} (a : Addr) (bytes : List Byte) (h : m.wf) : (Memory.write m a bytes).wf := by
  induction bytes generalizing m a with
  | nil => exact h
  | cons b rest ih => exact ih _ (Memory.put_wf _ _ h)

/-- What is sent to host memory keeps the canonical form. -/
theorem writeHost_wf (addr : Addr) (bytes : List Byte) (s : State) (h : s.memoryCanonical) :
    (writeHost addr bytes s).memoryCanonical := Memory.write_wf addr bytes h

/-- After reset host memory is in canonical form. -/
theorem reset_memory_wf : State.reset.memoryCanonical := List.Pairwise.nil

end Sys2Proof.Machine
end

