-- ==== Sys2Proof/Laws/Ops.lean ====
section
/-! SUPPORT. What the shared operations do, said once each: a setting event, an area fault, an ask that is taken or left,
a read that is awaited, and the updates of one display's composer or one stream. -/

namespace Sys2Proof.Machine

/-! ## Lists changed at one place -/

theorem setAt_getElem? {α : Type} (f : α → α) (l : List α) (n k : Nat) :
    (setAt l n f)[k]? = if n = k then l[k]?.map f else l[k]? := by
  rw [setAt, List.getElem?_modify]
  split <;> simp_all

theorem setAt_getD {α : Type} (d : α) (f : α → α) (l : List α) (n k : Nat) (h : k < l.length) :
    (setAt l n f).getD k d = if n = k then f (l.getD k d) else l.getD k d := by
  simp only [List.getD, setAt_getElem?, List.getElem?_eq_getElem h]
  split <;> rfl

theorem setAt_length {α : Type} (f : α → α) (l : List α) (n : Nat) : (setAt l n f).length = l.length := by
  simp [setAt]

/-! ## One display, one stream, one route -/

@[simp] theorem composer_onComposer (d : Display) (f : Composer → Composer) (s : State) :
    (s.onComposer d f).composer d = f (s.composer d) := by cases d <;> rfl

theorem composer_onComposer_other {d e : Display} (h : e ≠ d) (f : Composer → Composer) (s : State) :
    (s.onComposer d f).composer e = s.composer e := by
  cases d <;> cases e <;> first | rfl | exact absurd rfl h

theorem onComposer_onComposer (d : Display) (f g : Composer → Composer) (s : State) :
    (s.onComposer d g).onComposer d f = s.onComposer d fun c => f (g c) := by cases d <;> rfl

@[simp] theorem stream_onStream (st : Stream) (f : Film → Film) (s : State) :
    (s.onStream st f).stream st = f (s.stream st) := by cases st <;> rfl

theorem stream_onStream_other {st x : Stream} (h : x ≠ st) (f : Film → Film) (s : State) :
    (s.onStream st f).stream x = s.stream x := by
  cases st <;> cases x <;> first | rfl | exact absurd rfl h

@[simp] theorem route_onRoute (r : Route) (f : RouteState → RouteState) (s : State) :
    (s.onRoute r f).route r = f (s.route r) := by
  rcases r with ⟨st, z⟩
  cases st <;> cases z <;> rfl

theorem route_onRoute_other {r x : Route} (h : x ≠ r) (f : RouteState → RouteState) (s : State) :
    (s.onRoute r f).route x = s.route x := by
  rcases r with ⟨st, z⟩
  rcases x with ⟨st', z'⟩
  cases st <;> cases z <;> cases st' <;> cases z' <;> first | rfl | exact absurd rfl h

/-! ## The notice unit -/

/-- A setting event touches the notice unit alone. -/
theorem setFlag_frame (f : Flag) (s : State) : { setFlag f s with notice := s.notice } = s := rfl

/-- An AREA_FAULT event is a setting event with a record, which it writes (R194). -/
theorem areaFault_eq (k : AreaFaultKind) (p : Word) (s : State) : areaFault k p s =
    noteWritten areaFaultOffsets { setFlag .areaFault s with
      notice := { (setFlag .areaFault s).notice with lastFault := some ⟨k, p, s.port.blockCount⟩ } } := rfl

/-! ## Asks -/

/-- What taking an ask changes: its slot and, for a decided result, the notice unit. -/
theorem takeAsk_eq (n : Nat) (q : Word) (r : AskResult) (s : State) : takeAsk n q r s =
    { s with
      notice := if r = .empty then s.notice else (setFlag .askAnswered s).notice
      poller := { s.poller with slots := (takeAsk n q r s).poller.slots } } := by
  unfold takeAsk writeResult
  split <;> rfl

/-- The slot of an ask taken. -/
theorem takeAsk_slot (n : Nat) (q : Word) (r : AskResult) (s : State) (h : n < s.poller.slots.length) :
    (takeAsk n q r s).slot n = ⟨q, none, q, r, s.port.blockCount⟩ := by
  unfold takeAsk writeResult
  split <;> simp [State.slot, setFlag, State.onNotice, State.onSlot, State.onPoller, List.getD, setAt_getElem?, h]

/-- The other slots. -/
theorem takeAsk_slot_other (n : Nat) (q : Word) (r : AskResult) (s : State) (k : Nat) (h : k ≠ n) :
    (takeAsk n q r s).slot k = s.slot k := by
  unfold takeAsk writeResult
  split <;> simp [State.slot, setFlag, State.onNotice, State.onSlot, State.onPoller, List.getD, setAt_getElem?, h.symm]

/-- The slot's test of an ask, as the statements say it. -/
theorem slotTakes_iff (s : State) (n : Nat) (q : Word) : slotTakes s n q = true ↔ s.mayTake n q := by
  have h : slotBusy s n = false ↔ (s.slot n).reading = none ∧ (n = mixerSlot → s.poller.mixerWaits = false) := by
    simp only [slotBusy, Bool.or_eq_false_iff, Bool.and_eq_false_imp, beq_iff_eq, Option.isSome_eq_false_iff,
      Option.isNone_iff_eq_none]
  simp only [slotTakes, State.mayTake, Bool.and_eq_true, Bool.not_eq_true', h, bne_iff_ne, List.contains_eq_mem,
    decide_eq_false_iff_not]
  exact ⟨fun ⟨⟨⟨a, b, c⟩, d⟩, e⟩ => ⟨a, b, e, c, d⟩, fun ⟨a, b, e, c, d⟩ => ⟨⟨⟨a, b, c⟩, d⟩, e⟩⟩

/-- An ask that its slot does not take changes nothing (R187). -/
theorem handAsk_left {s : State} {n : Nat} {a : Ask} (h : ¬s.mayTake n a.sequence) : handAsk n a s = s := by
  have : slotTakes s n a.sequence = false :=
    (Bool.not_eq_true _).mp fun c => h ((slotTakes_iff _ _ _).1 c)
  simp [handAsk, this]

/-- An ask that its slot takes goes to the slot's owner. -/
theorem handAsk_taken {s : State} {n : Nat} {a : Ask} (h : s.mayTake n a.sequence) :
    handAsk n a s = askOwner n a s := by simp [handAsk, (slotTakes_iff _ _ _).2 h]

theorem anyFrom_false_iff (q c : Word) (p : List Word) (k : Nat) :
    Ask.anyFrom ⟨q, c, p⟩ k = false ↔ noParams (p.drop k) := by simp [Ask.anyFrom, noParams]

theorem askOwner_display (d : Display) (a : Ask) (s : State) : askOwner (displaySlot d) a s = takeDisplayAsk d a s := by
  cases d <;> rfl

theorem askOwner_stream (st : Stream) (a : Ask) (s : State) : askOwner (streamSlot st) a s = takeStreamAsk st a s := by
  cases st <;> rfl

/-! ## Reads -/

/-- How a read that is awaited ends: with its bytes handed to the work it is for, or as a request fault (R171). -/
theorem completeRead_awaited {s : State} {tag : Nat} {i : Issued} {what : ReadOf} {n : Nat}
    (h : s.awaits tag i what n) (kind : ReadOf → Bool) (hk : kind what = true) (c : Completion) :
    completeRead kind tag c s = match readOutcome n c with
      | .ok bytes => handRead what bytes (s.readEnded i)
      | .error k => requestFault i k s := by
  obtain ⟨h1, h2, h3⟩ := h
  simp only [completeRead, h1, h2, hk, if_true]
  cases readOutcome n c <;> simp [readOk, h3, State.readEnded]

/-- A read that ends with as many bytes as were asked. -/
theorem completeRead_data {s : State} {tag : Nat} {i : Issued} {what : ReadOf} {n : Nat} (h : s.awaits tag i what n)
    (kind : ReadOf → Bool) (hk : kind what = true) (bytes : List Byte) (hb : bytes.length = n) :
    completeRead kind tag (.data bytes) s = handRead what bytes (s.readEnded i) := by
  rw [completeRead_awaited h kind hk]
  simp [readOutcome, hb]

/-! ## Kept frames -/

/-- An abandoned frame leaves the frames not complete, and no other does. -/
@[simp] theorem abandonFrame_frames (frame : Nat) (s : State) :
    (abandonFrame frame s).capture.frames = s.capture.frames.filter fun f => f.id != frame := rfl

/-- No frame of the kind that is abandoned is left. -/
theorem abandonFrames_kind (kind : KeptFrame → Bool) (s : State) :
    ∀ f ∈ (abandonFrames kind s).capture.frames, kind f = false := by
  have left : ∀ (l : List KeptFrame) (s : State) (f : KeptFrame),
      f ∈ (l.foldl (fun s f => abandonFrame f.id s) s).capture.frames →
        f ∈ s.capture.frames ∧ ∀ x ∈ l, f.id ≠ x.id := by
    intro l
    induction l with
    | nil => simp
    | cons x l ih =>
      intro s f h
      have := ih _ f h
      simp at this
      simp [this]
      exact this.2
  intro f h
  have := left _ s f h
  cases k : kind f
  · rfl
  · exact absurd rfl (this.2 f (by simp [this.1, k]))

end Sys2Proof.Machine
end

