-- ==== Sys2Proof/Laws/Requests.lean ====
section
/-! SUPPORT. What a granted request changes: no status field, and of the queues only the one it waited in. -/

namespace Sys2Proof.Machine

/-- A row fetch that goes on changes nothing but the frames in progress. -/
theorem advanceFetch_eq (d : Display) (n : Nat) (s : State) : ∃ a b c, advanceFetch d n s =
    { s with composers := ⟨{ s.composers.front with frame := a }, { s.composers.rearL with frame := b },
      { s.composers.rearR with frame := c }⟩ } := by
  cases h : (s.composer d).frame with
  | none =>
    refine ⟨s.composers.front.frame, s.composers.rearL.frame, s.composers.rearR.frame, ?_⟩
    have e : advanceFetch d n s = s := by
      unfold advanceFetch
      cases d <;> (simp only [State.composer, PerDisplay.get] at h; simp only [State.onComposer, PerDisplay.update, h])
    rw [e]
  | some f =>
    cases d <;> simp only [State.composer, PerDisplay.get] at h
    · exact ⟨_, s.composers.rearL.frame, s.composers.rearR.frame, by
        simp only [advanceFetch, State.onComposer, PerDisplay.update, h]; rfl⟩
    · exact ⟨s.composers.front.frame, _, s.composers.rearR.frame, by
        simp only [advanceFetch, State.onComposer, PerDisplay.update, h]; rfl⟩
    · exact ⟨s.composers.front.frame, s.composers.rearL.frame, _, by
        simp only [advanceFetch, State.onComposer, PerDisplay.update, h]; rfl⟩

/-- It changes no status field. -/
theorem advanceFetch_statusFields (d : Display) (n : Nat) (s : State) :
    statusFields (advanceFetch d n s) = statusFields s := by
  obtain ⟨a, b, c, h⟩ := advanceFetch_eq d n s
  rw [h]
  rfl

/-- A request taken from its client and issued changes no status field. -/
theorem issue_takeGranted_statusFields (r : Request) (s : State) :
    statusFields (issue r (takeGranted r s)) = statusFields s := by
  have : ∀ x, statusFields (issue r x) = statusFields x := by
    intro x
    unfold statusFields areaFields answerFields cardFields displayFields cameraFields guideFields mixerFields chimeFields
      reverseFields linkFields
    rfl
  rw [this]
  unfold takeGranted
  split
  · unfold statusFields areaFields answerFields cardFields displayFields cameraFields guideFields mixerFields chimeFields
      reverseFields linkFields
    rfl
  · unfold statusFields areaFields answerFields cardFields displayFields cameraFields guideFields mixerFields chimeFields
      reverseFields linkFields
    rfl
  · split
    · exact advanceFetch_statusFields _ _ _
    · exact advanceFetch_statusFields _ _ _
    · exact advanceFetch_statusFields _ _ _
    all_goals
      unfold statusFields areaFields answerFields cardFields displayFields cameraFields guideFields mixerFields chimeFields
        reverseFields linkFields
      rfl

/-- Equal status fields, and none noted, leave nothing to write. -/
theorem changedFields_nil {s u : State} (h : statusFields u = statusFields s) (hw : u.poller.written = []) :
    changedFields s u = [] := by
  unfold changedFields
  rw [h, hw, List.filterMap_eq_nil_iff]
  intro p hp
  have : p.1 = p.2 := by
    obtain ⟨i, hi⟩ := List.getElem?_of_mem hp
    rw [List.getElem?_zip_eq_some] at hi
    exact Option.some.inj (hi.1.symm.trans hi.2)
  simp [this]

/-- A command that changes no status field and notes none makes no status write. -/
theorem publishStatus_unchanged {s u : State} (h : statusFields u = statusFields s) (hw : u.poller.written = []) :
    publishStatus s u = u := by
  unfold publishStatus
  rw [changedFields_nil h hw]
  split
  · have : writeOrdered [] u = u := rfl
    rw [this]
    show { u with poller := { u.poller with written := [] } } = u
    rw [← hw]
  · rfl

/-- A request taken and issued notes no status field. -/
theorem issue_takeGranted_written (r : Request) (s : State) :
    (issue r (takeGranted r s)).poller.written = s.poller.written := by
  show (takeGranted r s).poller.written = _
  unfold takeGranted
  split
  · rfl
  · rfl
  · split <;> rfl

/-- The request of a composer is a read of its own client. -/
theorem composerRequest_client (d : Display) (s : State) (r : Request) (h : composerRequest s d = some r) :
    r.client = displayClient d ∧ ∃ w n, r.work = .read w n := by
  unfold composerRequest at h
  split at h
  · cases h
  · split at h
    · cases h
    · split at h
      · obtain ⟨l, -, h⟩ := Option.bind_eq_some_iff.mp h
        obtain ⟨p, -, h⟩ := Option.map_eq_some_iff.mp h
        rw [← h]; exact ⟨rfl, _, _, rfl⟩
      · cases h

/-- Where each request waits at its own client, the granted one leaves the queue it waited in, and no other. -/
theorem takeGranted_queues {s : State} {c : Client} {r : Request} (h : s.requestsOwned) (hr : waitingRequest s c = some r) :
    (takeGranted r s).poller = { s.poller with order := if c = .poller then s.poller.order.tail else s.poller.order } ∧
    (takeGranted r s).audio = { s.audio with queue := if c = .audio then s.audio.queue.tail else s.audio.queue } := by
  obtain ⟨hw, ho, hq, -, -⟩ := h
  have row : ∀ d, composerRequest s d = some r →
      (takeGranted r s).poller = s.poller ∧ (takeGranted r s).audio = s.audio := by
    intro d hd
    obtain ⟨hc, w, n, hk⟩ := composerRequest_client d s r hd
    unfold takeGranted
    rw [hk, hc]
    cases d <;> exact ⟨rfl, rfl⟩
  cases c with
  | front => exact row _ hr
  | rearL => exact row _ hr
  | rearR => exact row _ hr
  | twin =>
    have hr : twinRequest s = some r := hr
    unfold twinRequest at hr
    split at hr
    · cases hr
    · split at hr
      · cases hr; exact ⟨rfl, rfl⟩
      · cases hr
  | storeWriter =>
    have hr : writerRequest s = some r := hr
    unfold writerRequest at hr
    split at hr
    · cases hr
    · split at hr
      · cases hr
      · dsimp only at hr
        split at hr
        · cases hr
        · cases hr; exact ⟨rfl, rfl⟩
  | audio =>
    have hr : s.audio.queue.head? = some r := hr
    have hm := hq r (List.mem_of_mem_head? hr)
    unfold takeGranted
    cases hk : r.work with
    | read w n => rw [hm.1]; exact ⟨rfl, rfl⟩
    | status o b => simp [Request.isRead, hk] at hm
    | store a b c => simp [Request.isRead, hk] at hm
  | poller =>
    have hr : s.poller.order.head? = some r := hr
    have hm := ho r (List.mem_of_mem_head? hr)
    unfold takeGranted
    cases hk : r.work with
    | read w n => rw [hm.1]; exact ⟨rfl, rfl⟩
    | status o b => exact ⟨rfl, rfl⟩
    | store a b c => exact absurd hk (hm.2 _ _ _)

end Sys2Proof.Machine
end

