-- ==== Sys2Proof/Laws/Status.lean ====
section
/-! SUPPORT. What the status writes of a command do: they change nothing but the poller's order, and leave the reads in
it as they are. -/

namespace Sys2Proof.Machine

/-- Two states alike but for the order, with the same reads in it. -/
theorem SameButWrites.refl (s : State) : SameButWrites s s := ⟨rfl, rfl⟩

theorem SameButWrites.trans {a b c : State} (h : SameButWrites a b) (k : SameButWrites b c) : SameButWrites a c :=
  ⟨h.1.trans k.1, h.2.trans k.2⟩

/-- A request that writes a status field is no read. -/
theorem isStatusWriteOf_isRead {o : Nat} {r : Request} (h : isStatusWriteOf o r = true) : r.isRead = false := by
  unfold isStatusWriteOf at h
  unfold Request.isRead
  split at h <;> simp_all

/-- Putting a status write in place of others of its field changes no read. -/
theorem replaceStatusWrite_reads (w : Request) (o : Nat) (l : List Request) (hw : w.isRead = false) :
    (l.map fun r => if isStatusWriteOf o r then w else r).filter Request.isRead = l.filter Request.isRead := by
  induction l with
  | nil => rfl
  | cons r l ih =>
    rw [List.map_cons]
    by_cases h : isStatusWriteOf o r = true
    · simp [h, hw, isStatusWriteOf_isRead h, ih]
    · simp [h, List.filter_cons, ih]

/-- Placing a status write changes no read of the order. -/
theorem placeStatusWrite_reads (w : Request) (o : Nat) (l : List Request) (hw : w.isRead = false) :
    (placeStatusWrite w o l).filter Request.isRead = l.filter Request.isRead := by
  unfold placeStatusWrite
  split
  · exact replaceStatusWrite_reads w o l hw
  · simp [List.filter_append, hw]

/-- A request that writes one of some status fields is no read. -/
theorem isStatusWriteIn_isRead {l : List Nat} {r : Request} (h : isStatusWriteIn l r = true) : r.isRead = false := by
  obtain ⟨o, -, h⟩ := List.any_eq_true.mp h
  exact isStatusWriteOf_isRead h

/-- The two parts of an order. -/
theorem splitAtLast_append (offsets : List Nat) (l : List Request) :
    (splitAtLast offsets l).1 ++ (splitAtLast offsets l).2 = l := by
  rw [splitAtLast, ← List.reverse_append, List.takeWhile_append_dropWhile, List.reverse_reverse]

/-- Placing a count's write changes no read of the order. -/
theorem placeCountWrite_reads (lower data : List Nat) (w : Request) (o : Nat) (l : List Request)
    (hw : w.isRead = false) :
    (placeCountWrite lower data w o l).filter Request.isRead = l.filter Request.isRead := by
  unfold placeCountWrite
  split
  · simp [hw]
  · next r rest h =>
    have hr : r.isRead = false := by
      have := List.head?_dropWhile_not (fun r => !isStatusWriteOf o r) l
      rw [h] at this
      simp at this
      exact isStatusWriteOf_isRead this
    have moved : ((splitAtLast data rest).1.filter (isStatusWriteIn lower)).filter Request.isRead = [] := by
      rw [List.filter_filter, List.filter_eq_nil_iff]
      intro a _ ha
      rw [Bool.and_eq_true] at ha
      simp [isStatusWriteIn_isRead ha.2] at ha
    have stay : ((splitAtLast data rest).1.filter fun r => !isStatusWriteIn lower r).filter Request.isRead =
        (splitAtLast data rest).1.filter Request.isRead := by
      rw [List.filter_filter]
      refine List.filter_congr fun a _ => ?_
      cases ha : isStatusWriteIn lower a
      · simp
      · simp [isStatusWriteIn_isRead ha]
    have e : l = l.takeWhile (fun r => !isStatusWriteOf o r) ++
        r :: ((splitAtLast data rest).1 ++ (splitAtLast data rest).2) := by
      rw [splitAtLast_append, ← h, List.takeWhile_append_dropWhile]
    rw [congrArg (List.filter Request.isRead) e]
    simp [List.filter_append, hw, hr, moved, stay]

/-- One status write. -/
theorem makeStatusWrite_same (offset : Nat) (bytes : List Byte) (s : State) :
    SameButWrites (makeStatusWrite offset bytes s) s :=
  ⟨rfl, placeStatusWrite_reads _ _ _ rfl⟩

/-- The write of one count. -/
theorem makeCountWrite_same (lower data : List Nat) (offset : Nat) (bytes : List Byte) (s : State) :
    SameButWrites (makeCountWrite lower data offset bytes s) s :=
  ⟨rfl, placeCountWrite_reads _ _ _ _ _ rfl⟩

/-- Any number of steps that make status writes alone. -/
theorem foldl_same {α : Type} (f : State → α → State) (h : ∀ s a, SameButWrites (f s a) s) (l : List α) (s : State) :
    SameButWrites (l.foldl f s) s := by
  induction l generalizing s with
  | nil => exact .refl s
  | cons a l ih => exact (ih _).trans (h _ _)

/-- Any number of status writes. -/
theorem writeFields_same (l : List StatusField) (s : State) : SameButWrites (writeFields l s) s :=
  foldl_same _ (fun _ _ => makeStatusWrite_same _ _ _) l s

/-- Any number of writes of counts. -/
theorem writeCounts_same (lower data : List Nat) (l : List StatusField) (s : State) :
    SameButWrites (writeCounts lower data l s) s := foldl_same _ (fun _ _ => makeCountWrite_same _ _ _ _ _) l s

/-- The details of an event are written each once, a bank fault ahead of the others. -/
theorem detailsInOrder_perm (l : List StatusField) : (detailsInOrder l).Perm (ofRank 0 l) :=
  List.filter_append_perm _ _

/-- The writes of details and counts in their order. -/
theorem writeOrdered_same (l : List StatusField) (s : State) : SameButWrites (writeOrdered l s) s :=
  (writeCounts_same _ _ _ _).trans ((writeCounts_same _ _ _ _).trans (writeFields_same _ _))

/-- A note of what is written changes nothing else. -/
theorem noteWritten_same (offsets : List Nat) (s : State) : SameButWrites (noteWritten offsets s) s := by
  unfold noteWritten
  split <;> exact ⟨rfl, rfl⟩

/-- The end of a command's note of what it writes changes nothing else. -/
theorem clearWritten_same (s : State) : SameButWrites (s.onPoller fun p => { p with written := [] }) s := ⟨rfl, rfl⟩

/-- The status writes of a command. -/
theorem publishStatus_same (before after : State) : SameButWrites (publishStatus before after) after := by
  unfold publishStatus
  split
  · exact (clearWritten_same _).trans (writeOrdered_same _ _)
  · exact .refl _

/-- While the part is not ATTACHED before and after, a command makes no status write. -/
theorem publishStatus_detached (before after : State) (h : before.port.attached = false ∨ after.port.attached = false) :
    publishStatus before after = after := by
  unfold publishStatus
  rcases h with h | h <;> simp [h]

/-- A command whose effect is `u` answers a next state that is `u` but for status writes. -/
theorem commit_next {s u : State} {o : Host.Outcome State Fault Refusal} (h : o = commit s u) :
    ∃ t, o = .next t ∧ SameButWrites t u := ⟨_, h, publishStatus_same s u⟩

/-- States alike but for status writes agree in every field but the poller's order and its note of what is written. -/
theorem SameButWrites.fields {t u : State} (h : SameButWrites t u) :
    t = { u with poller := { u.poller with order := t.poller.order, written := t.poller.written } } := by
  have := congrArg (fun x : State =>
    { x with poller := { x.poller with order := t.poller.order, written := t.poller.written } }) h.1
  exact this

theorem SameButWrites.notice {t u : State} (h : SameButWrites t u) : t.notice = u.notice :=
  (congrArg State.notice h.1 : _)

theorem SameButWrites.memory {t u : State} (h : SameButWrites t u) : t.memory = u.memory :=
  (congrArg State.memory h.1 : _)

end Sys2Proof.Machine
end

