-- ==== Sys2Proof/Tests/Slice0.lean ====
section
/-! SUPPORT. Tests of the part: ill-formed commands are refused by the checks of WellFormed, the manual's worked
examples come out of the model as the manual has them, some commands on small states, and for each statement of
Obligations.lean with hypotheses a state and operands that meet them. -/

namespace Sys2Proof.Tests

-- One theorem at a time: side by side, the kernel evaluations below take a thread with its stack each.
set_option Elab.async false

open Sys2Proof Sys2Proof.Machine

/-! ## Commands that are not well-formed -/

def sixZeros : List Word := [0, 0, 0, 0, 0, 0]

theorem test_wellFormed_run_write : Instr.wellFormed (.noCommand 0x300) = false ∧
    Instr.wellFormed (.noCommand 0x500) = true ∧ Instr.wellFormed (.noCommand 0x10000) = true := by decide

theorem test_wellFormed_ignored_offset : Instr.wellFormed (.registerWriteIgnored 4 0) = false ∧
    Instr.wellFormed (.registerWriteIgnored 23 0) = false ∧ Instr.wellFormed (.registerWriteIgnored 32 0) = false ∧
    Instr.wellFormed (.registerWriteIgnored 3 0) = true ∧ Instr.wellFormed (.registerWriteIgnored 24 0) = true := by
  decide

theorem test_wellFormed_display_asks : Instr.wellFormed (.displayTiming .front 1 []) = false ∧
    Instr.wellFormed (.displayBlank .front 1 [0]) = false ∧ Instr.wellFormed (.displayShow .front 1 [0, 0]) = false ∧
    Instr.wellFormed (.displayShow .front 1 sixZeros) = true := by decide

theorem test_wellFormed_stream_asks : Instr.wellFormed (.streamPlay .f0 1 []) = false ∧
    Instr.wellFormed (.streamPause .f0 1 []) = false ∧ Instr.wellFormed (.streamStop .f0 1 (0 :: sixZeros)) = false ∧
    Instr.wellFormed (.streamPlay .f1 1 sixZeros) = true := by decide

theorem test_wellFormed_camera_and_mixer_asks : Instr.wellFormed (.cameraOn 1 []) = false ∧
    Instr.wellFormed (.cameraOff 1 []) = false ∧ Instr.wellFormed (.cameraLoad 1 []) = false ∧
    Instr.wellFormed (.mixerSet 1 []) = false ∧ Instr.wellFormed (.mixerSet 1 sixZeros) = true := by decide

theorem test_wellFormed_spare_ask : Instr.wellFormed (.spareAsk 6 1 0 sixZeros) = false ∧
    Instr.wellFormed (.spareAsk 12 1 0 sixZeros) = false ∧ Instr.wellFormed (.spareAsk 7 1 0 []) = false ∧
    Instr.wellFormed (.spareAsk 7 1 0 sixZeros) = true ∧ Instr.wellFormed (.spareAsk 11 1 9 sixZeros) = true := by decide

/-- A tone of class 2 at full level, 440 Hz, 100 ms on and 100 ms off, once. -/
def tone : ChimeCard := ⟨5, 1, 2, 0, 0, 440, 100, 100, 1, 0, 0, 0, 0⟩

theorem test_wellFormed_chimes : Instr.wellFormed (.chimePlay 8 tone) = false ∧
    Instr.wellFormed (.chimePlay 0 { tone with ask := 2 }) = false ∧ Instr.wellFormed (.chimeStop 8 1) = false ∧
    Instr.wellFormed (.chimePlay 7 tone) = true ∧ Instr.wellFormed (.chimeStop 7 1) = true := by decide

theorem test_decode_no_row_has_bits : decodeTableWord 32 0x12345678 = none ∧
    State.reset.withFetchWord 32 0x12345678 = State.reset := ⟨rfl, rfl⟩

/-! ## The manual's worked examples -/

/-- 1.5.1, blending. -/
theorem test_blend_example : effectiveAlpha 200 128 = 100 ∧ blendChannel 240 40 100 = 118 := by decide

/-- 1.5.1, colour conversion. -/
theorem test_yuv_example : fromYuv 81 90 240 = ⟨255, 255, 0, 0⟩ := by decide

/-- 1.5.1, letterbox. -/
theorem test_letterbox_example : letterbox ⟨0, 0, 1024, 600⟩ 1920 1080 = ⟨0, 12, 1024, 576⟩ ∧
    cardFits ⟨0, 12, 1024, 576⟩ 1920 1080 = true := by decide

/-- 3.2: the check of the bytes 31H to 39H. -/
theorem test_line_check_example : lineCheck [0x31, 0x32, 0x33, 0x34, 0x35, 0x36, 0x37, 0x38, 0x39] = 0x29B1 := by
  simp [lineCheck, crcByte, crcBit]

/-- 4.4, the table's listed entries. -/
theorem test_table_entries : tangentEntry 1 = 1144 ∧ tangentEntry 5 = 5734 ∧ tangentEntry 6 = 6888 ∧
    tangentEntry 45 = 65536 ∧ sineEntry 1 = 1144 ∧ sineEntry 5 = 5712 ∧ sineEntry 6 = 6850 ∧ sineEntry 7 = 7987 ∧
    sineEntry 83 = 65048 ∧ sineEntry 84 = 65177 ∧ sineEntry 90 = 65536 := by decide

def caseGeometry : Geometry :=
  ⟨2700, 1000, 1600, 1024, 500, 1000, 2000, 3000, 600 * 65536, 640 * 65536, 640000 * 65536, 0, 200 * 65536,
    700000 * 65536, 0, 65536, 1000 * 65536⟩

/-- 4.6, the turn and the tables' readings. -/
theorem test_guide_case_turn : turnOf caseGeometry 900 = some ⟨563, 39206, 27387⟩ ∧ turnedAngle 39206 3000 = 628 ∧
    sineAt 628 = 7168 ∧ sineAt 8372 = 65141 := by decide

/-- 4.6, the two ground points and their projections. -/
theorem test_guide_case_points : turnPoint caseGeometry 800 27387 628 = (1070, 2902) ∧
    turnPoint caseGeometry (-800) 27387 628 = (-521, 3077) ∧ project caseGeometry (1070, 2902) = some (805, 328) ∧
    project caseGeometry (-521, 3077) = some (563, 323) := by decide

/-- 4.6, the placement in the default view rectangle. -/
theorem test_guide_case_placement :
    let i : GuideInputs := ⟨.live, 900, none, caseGeometry, 1280, 720, ⟨0, 0, 1280, 600⟩⟩
    placePoint i (805, 328) = (805, 273) ∧ placePoint i (563, 323) = (563, 269) := by decide

/-- 4.7: the line ends before the turned angle passes 9000. -/
theorem test_quarter_circle_case :
    let g := { caseGeometry with wheelbase := 2000, ratio := 640, d4 := 6000 }
    turnOf g 7800 = some ⟨4500, 536871, 2000⟩ ∧ turnedAngle 536871 2800 = 8022 ∧ turnedAngle 536871 3200 = 9168 ∧
    groundPoint g (turnOf g 7800) true 3200 = none := by decide

/-- 5.3, entries of the gain table that the manual's cases use. -/
theorem test_gain_entries : gainOf 0 = 32768 ∧ gainOf 12 = 16423 ∧ gainOf 24 = 8231 ∧ gainOf 48 = 2068 ∧
    gainOf 60 = 1036 := by decide

/-- 5.5.1: steps of the two ramps. -/
theorem test_ramp_example : rampGain ⟨16423, 2068, 0⟩ 1 = 16367 ∧ rampGain ⟨16423, 2068, 0⟩ 99 = 10872 ∧
    rampGain ⟨10872, 1036, 0⟩ 1 = 10834 ∧ rampGain ⟨10872, 1036, 0⟩ 256 = 1036 := by decide

/-- R114's worked samples. -/
theorem test_contribution_example : widen 4660 = 1192960 ∧ contribution 1192960 2068 = 75288 ∧
    contribution (-1192960) 2068 = -75288 := by decide

/-- 6.5.1: one sample of a beep. -/
theorem test_beep_sample_example : phaseStep 1000 = 1365 ∧ toneEntry 15 = 11793 ∧ envelope 100 3840 = 100 ∧
    toneValue 4063 100 = 1257920 ∧ contribution 1257920 (gainOf 12) = 630457 := by decide

/-- R139: off times at listed distances. -/
theorem test_off_times : offTimeOf 1499 = 719 ∧ offTimeOf 1400 = 660 ∧ offTimeOf 900 = 360 ∧ offTimeOf 400 = 60 ∧
    offTimeOf 350 = 40 ∧ offTimeOf 301 = 40 := by decide

/-- R38: the order of pts values around their wrap. -/
theorem test_pts_order : isBefore 0xFFFFFFFF 1 = true ∧ isAfter 1 0xFFFFFFFF = true ∧ isBefore 5 5 = false ∧
    atOrAfter 5 5 = true := by decide

/-- R166: a run is split at the 256-byte boundaries. -/
theorem test_request_split : requestsOf 0x1F0 300 = [(0x1F0, 16), (0x200, 256), (0x300, 28)] := by decide

/-- R1: FRONT's default frame rate is 60 Hz, as a fraction. -/
theorem test_front_rate : frameRate frontTiming = (297000000, 4950000) := by decide

/-! ## Small states -/

/-- ATTACHED at the base 0x10000, with nothing read yet. -/
def attached : State := { State.reset with port := { State.reset.port with
  attached := true, attachResult := .ok, areaLo := 0x10000, attachCount := 1 } }

/-- An attach in progress. -/
def attaching : State := { State.reset with port := { State.reset.port with attachResult := .pending, areaLo := 0x10000 } }

/-- A read that waits for its completion, with tag 7. -/
def readOf (c : Client) (what : ReadOf) (n : Nat) : Issued := ⟨7, ⟨c, 0x20000, .read what n⟩, true, 0⟩

/-- The state with that read outstanding. -/
def awaiting (c : Client) (what : ReadOf) (n : Nat) (s : State) : State :=
  { s with arbiter := { s.arbiter with outstanding := [readOf c what n], nextTag := 8 } }

theorem awaiting_awaits (c : Client) (what : ReadOf) (n : Nat) (s : State) :
    (awaiting c what n s).awaits 7 (readOf c what n) what n := ⟨rfl, rfl, rfl⟩

theorem attached_shaped : attached.shaped := ⟨rfl, rfl, rfl, by intro d; cases d <;> rfl, rfl⟩

theorem attached_slot : ∀ n, n < 12 → attached.slot n = ⟨0, none, 0, .empty, 0⟩ := by decide

theorem attached_mayTake (n : Nat) (h : n < 12) : attached.mayTake n 1 := by
  have e := attached_slot n h
  refine ⟨rfl, by rw [e], by rw [e]; decide, fun _ => rfl, nofun⟩

theorem sixZeros_noParams : noParams sixZeros := by simp [noParams, sixZeros]

/-- A parameter list with a nonzero word. -/
def oneParam : List Word := [0, 0, 0, 0, 0, 1]

theorem oneParam_not_noParams : ¬noParams oneParam := by simp [noParams, oneParam]

/-- A list of bytes that begins with the given ones and is padded with zeros. -/
def padded (n : Nat) (l : List Byte) : List Byte := l ++ List.replicate (n - l.length) 0

/-- The first 256 bytes of a good header. -/
def goodHeader : List Byte :=
  padded 256 (wordBytes 1 ++ List.replicate 12 0 ++
    regionMap.flatMap fun r => wordBytes (wordOfNat r.1) ++ wordBytes (wordOfNat r.2))

/-- The default timing record of FRONT: 1280 by 720 in 1650 by 750, divider code 3. -/
def timingBytes : List Byte := [0, 5, 0xD0, 2, 0x72, 6, 0xEE, 2, 3, 0, 0, 0, 0, 0, 0, 0]

/-- A frame in progress: four lines of 16 black pixels, no layer. -/
def someFrame : Frame := ⟨1, false, 16, 4, 0, false, .full, [], [], false, none, true, none⟩

/-- A display with that frame in progress. -/
def drawing (d : Display) (f : Frame) (s : State) : State := s.onComposer d fun c => { c with frame := some f }

/-- A layer of a picture of 16 by 4 pixels, one source row to a line. -/
def someLayer : Layer :=
  ⟨.picture ⟨0x40000, 64, .argb8888, 0, 0, 16, 4⟩, 255, ⟨0, 0, 16, 4⟩, ⟨0, 0, 16, 4⟩, false, [], none, false⟩

/-- A kept camera frame: open, in order, nothing missing. -/
def someKept : KeptFrame := ⟨0, 9, 0, 0, 0, false, false, false, false, false, false, none, CameraRecord.reset⟩

/-- A chime of a card, of a class. -/
def someChime (n cls take : Nat) : Chime := ⟨.card n, cls, take, .tone 440 100 100, 0, 1, false, false, 0⟩

/-- The state with a camera state. -/
def cameraIn (c : CaptureState) (s : State) : State := { s with capture := { s.capture with state := c } }

/-- The state with a command in front of the queue. -/
def withCommand (c : Instr) (s : State) : State := { s with pending := [c] }

/-! ## Commands on small states -/

theorem test_attach_misaligned_sets_area_fault :
    (match exec .attach { State.reset with port := { State.reset.port with areaLo := 1 } } with
      | .next t => (t.port.attachResult, t.notice.cause, t.notice.lastFault)
      | _ => (.none, 0, none)) = (.misaligned, 0x20, some ⟨.attach, 3, 0⟩) := by decide

theorem test_header_read_attaches :
    (match exec (.headerReadDone 7 (.data goodHeader)) (awaiting .poller .header 256 attaching) with
      | .next t => (t.port.attached, t.port.attachResult, t.port.attachCount)
      | _ => (false, .none, 0)) = (true, .ok, 1) := by decide +kernel

/-- The offsets that the waiting status writes go to, in the order of the poller. -/
def waitingOffsets (s : State) : List Nat := s.poller.order.filterMap fun r =>
  match r.work with
  | .status o _ => some o
  | .store _ _ _ => none
  | .read _ _ => none

/-- R170, R180, R193: while the initial contents wait, a clip count goes ahead of the count of its notice, and the attach
count stays last. -/
theorem test_attach_count_stays_last :
    (match exec (.headerReadDone 7 (.data goodHeader)) (awaiting .poller .header 256 attaching) with
      | .next t => match exec (.zoneSaturation .cabin) t with
        | .next u => ((waitingOffsets u).getLast?,
            (waitingOffsets u).filter fun o => o == 0x8CDC || o == 0x803C || o == 0x8038 || o == 0x9000)
        | _ => (none, [])
      | _ => (none, [])) = (some 0x8004, [0x8038, 0x8CDC, 0x803C, 0x9000]) := by decide +kernel

theorem test_stream_play_primes :
    (match exec (.streamPlay .f1 1 [10000, 1, 0, 0, 0, 0]) attached with
      | .next t => (t.film.f1.state, t.film.f1.mode, t.film.f1.startPts, (t.slot 1).result)
      | _ => (.stopped, .sound, none, .empty)) = (.priming, .free, some 10000, .empty) := by decide

theorem test_camera_on_powers_up :
    (match exec (.cameraOn 1 sixZeros) attached with
      | .next t => (t.capture.state, t.camPwr, t.capture.settleTimer, (t.slot cameraSlot).result)
      | _ => (.off, false, none, .empty)) = (.powering, true, some 2400, .done) := by decide

theorem test_reverse_in_starts_debounce :
    (match exec (.reverseInChange true) State.reset with
      | .next t => (t.reverse.raw, t.reverse.level, t.reverse.debounce)
      | _ => (false, false, none)) = (true, false, some 960) := by decide

theorem test_chime_play_waits :
    (match exec (.chimePlay 3 tone) attached with
      | .next t => ((t.card 3).state, (t.card 3).answered, t.chime.waiting.map fun c => (c.cls, c.take))
      | _ => (.none, 0, [])) = (.waiting, 5, [(2, 1)]) := by decide

theorem test_status_write_reaches_memory :
    (match exec .statusWriteComplete { attached with arbiter := { attached.arbiter with
        path := some ⟨7, ⟨.poller, 0x18000, .status 0x8000 [0x12, 0x34]⟩, true, 0⟩ } } with
      | .next t => (t.memory.read 0x18000, t.memory.read 0x18001, t.memory.read 0x18002)
      | _ => (none, none, none)) = (some 0x12, some 0x34, none) := by decide +kernel

theorem test_out_of_order_line_is_missing :
    (match exec (.linePacket 5 [] 0) { attached with capture := { attached.capture with
        state := .capturing, openFrame := .kept 0, frames := [{ someKept with expected := 6 }] } } with
      | .next t => (t.capture.missingLines, t.capture.suspectLines, t.capture.frames.map (·.expected))
      | _ => (0, 0, [])) = (1, 0, [6]) := by decide

/-- R56, R58: the loss timer that a settle timer's end starts runs its 100 ms from the next sample period on. -/
theorem test_loss_timer_starts_whole :
    (match step { attached with capture := { attached.capture with state := .powering, settleTimer := some 1 } } with
      | .next t => (t.capture.state, t.capture.lossTimer)
      | _ => (.off, none)) = (.armed, some 4800) := by decide +kernel

/-- R184, R195: the counts are 0 before QUIET's own CAMERA_CHANGE counts. -/
theorem test_quiet_counts_its_camera_change :
    (match exec .quiet { attached with
        capture := { attached.capture with state := .powering, askedOn := true, settleTimer := some 5 }
        notice := { attached.notice with counts := [9, 9, 9, 1, 9, 9, 9, 9] } } with
      | .next t => (t.capture.state, t.notice.counts)
      | _ => (.fault, [])) = (.off, [0, 0, 0, 1, 0, 0, 0, 0]) := by decide +kernel

/-- R198: the size limit holds for a NONE entry too. -/
theorem test_wide_none_entry_is_bad : entryIsBad .rearL ⟨0, 0, 1280, 720⟩ ⟨0, 255, ⟨0, 0, 4097, 1⟩, .none, false⟩ = true ∧
    entryIsBad .rearL ⟨0, 0, 1280, 720⟩ ⟨0, 255, ⟨0, 0, 4096, 1⟩, .none, false⟩ = false := by decide

/-! ## Witnesses: states and operands that meet the hypotheses of the statements, clause by clause -/

/-! ### The whole machine -/

theorem witness_StepRunsFrontCommand :
    (∃ c rest, (withCommand .wake State.reset).pending = c :: rest) ∧ State.reset.pending = [] ∧
    ∃ t, exec .wake State.reset = .next t := ⟨⟨_, _, rfl⟩, rfl, _, rfl⟩

theorem witness_OnlySentWritesReachMemory :
    (.maskWrite 0xFF : Instr) ≠ .statusWriteComplete ∧ (.maskWrite 0xFF : Instr) ≠ .storeWriteDone ∧
    ∃ t, exec (.maskWrite 0xFF) attached = .next t := ⟨by decide, by decide, _, rfl⟩

theorem witness_OnlySentWritesReachMemory_idle : attached.pending = [] ∧ ∃ t, step attached = .next t := ⟨rfl, _, rfl⟩

/-- The state before a mask write, with bytes in memory, 16 reads outstanding, 8 lines buffered, outputs at the ends of
their range and two chimes waiting. -/
def full : State := { withCommand (.maskWrite 0xFF) attached with
  memory := [(0x18000, 1), (0x18004, 2)]
  arbiter := { attached.arbiter with outstanding := List.replicate 16 (readOf .poller .vehicle 16) }
  capture := { attached.capture with buffer := List.replicate 8 ⟨0, 0, [], true, false, 0, true⟩ }
  mixer := { attached.mixer with output := ⟨⟨-8388608, 8388607⟩, ⟨0, 0⟩, ⟨0, 0⟩⟩ }
  chime := { attached.chime with waiting := [someChime 1 2 5, someChime 0 1 3, someChime 2 1 4] } }

theorem witness_MemoryAndShapeAreKept : full.memoryCanonical ∧ full.shaped ∧ ∃ t, step full = .next t := by
  refine ⟨?_, ⟨rfl, rfl, rfl, by intro d; cases d <;> rfl, rfl⟩, _, rfl⟩
  unfold State.memoryCanonical; decide

/-- A read of the poller and one of the audio fetcher that wait, a status write on the path and a read outstanding. -/
def requesting : State := { attached with
  poller := { attached.poller with order := [⟨.poller, 0x20000, .read .vehicle 16⟩] }
  audio := { attached.audio with queue := [⟨.audio, 0x50000, .read (.soundSamples .f0 0 0) 64⟩] }
  arbiter := { attached.arbiter with
    path := some ⟨7, ⟨.poller, 0x18000, .status 0x8000 [1]⟩, true, 0⟩
    outstanding := [readOf .poller .vehicle 16] } }

/-- A list of one read of the poller. -/
theorem polled_owned (a : Addr) (what : ReadOf) (n : Nat) :
    ∀ r ∈ [(⟨.poller, a, .read what n⟩ : Request)], r.client = .poller ∧ ∀ frame row b, r.work ≠ .store frame row b :=
  fun _ h => by cases List.mem_singleton.mp h; exact ⟨rfl, fun _ _ _ => nofun⟩

theorem requesting_owned : requesting.requestsOwned := by
  refine ⟨rfl, polled_owned _ _ _, by decide, by decide, fun i o b h _ => ?_⟩
  cases h; rfl

theorem witness_MemoryAndShapeAreKept_requests : requesting.requestsOwned ∧ ∃ t, step requesting = .next t :=
  ⟨requesting_owned, _, rfl⟩

theorem reset_record_legal : CameraRecord.reset.legal :=
  ⟨by decide, by decide, nofun, by decide, by decide, by decide, by decide, by decide, by decide, by decide, by decide,
    by decide⟩

theorem witness_BoundsAreKept :
    full.readsBounded ∧ full.linesBounded ∧ full.recordLegal ∧ ∃ t, step full = .next t :=
  ⟨by unfold State.readsBounded; decide, by unfold State.linesBounded; decide, reset_record_legal, _, rfl⟩

theorem witness_OutputsStayIn24Bits : full.outputsIn24Bits ∧ ∃ t, step full = .next t := by
  refine ⟨?_, _, rfl⟩
  intro z
  unfold Stereo.in24Bits
  cases z <;> decide

theorem witness_BaseStaysAligned : full.baseAligned ∧ attaching.baseAligned ∧ ∃ t, step full = .next t :=
  ⟨fun _ => by decide, fun _ => by decide, _, rfl⟩

theorem witness_WaitingListStaysOrdered : full.waitingOrdered ∧ ∃ t, step full = .next t :=
  ⟨by unfold State.waitingOrdered; decide, _, rfl⟩

theorem witness_OnlyAGoodHeaderAttaches :
    attaching.port.attached = false ∧
    ∃ t, step (withCommand (.headerReadDone 7 (.data goodHeader)) (awaiting .poller .header 256 attaching)) = .next t ∧
      t.port.attached = true := ⟨rfl, _, rfl, by decide +kernel⟩

theorem witness_ChangedFieldsAreWritten :
    attached.shaped ∧ attached.port.attached = true ∧
    ∃ t, exec (.spareAsk 7 1 0 sixZeros) attached = .next t ∧ t.port.attached = true ∧
      ∃ p ∈ (statusFields attached).zip (statusFields t), p.1.data ≠ p.2.data :=
  ⟨attached_shaped, rfl, _, rfl, by decide +kernel, by decide +kernel⟩

/-- The offsets of the status writes that wait, oldest first. -/
def statusOffsets (s : State) : List Nat := s.poller.order.filterMap fun r =>
  match r.work with
  | .status o _ => some o
  | .read _ _ => none
  | .store _ _ _ => none

/-- The state after a command that answers a next state. -/
def after (c : Instr) (s : State) : State :=
  match exec c s with
  | .next t => t
  | .fault _ => s
  | .refused _ => s

/-- A refused candidate of REAR_L, and the next one checked. -/
def latching : State :=
  attached.onComposer .rearL fun c => { c with bankFault := .read, candidate := .waiting ⟨.b, 5, []⟩ }

/-- R9: a latch writes the bank fault ahead of the shown bank, its change count and its bad entries. -/
theorem witness_ChangedFieldsAreWritten_order :
    latching.shaped ∧ latching.port.attached = true ∧ latching.poller.order = [] ∧
    (after (.frameStart .rearL) latching).port.attached = true ∧
    statusOffsets (after (.frameStart .rearL) latching) = [0x8730, 0x871C, 0x8720, 0x8724, 0x8728, 0x872C] :=
  ⟨⟨rfl, rfl, rfl, by intro d; cases d <;> rfl, rfl⟩, rfl, rfl, by decide +kernel, by decide +kernel⟩

/-- R172, R170: the write of the poller's fault count is on the path and ends with a fault: it is made again, and the
last-fault details of the same command stand behind it. -/
theorem witness_ChangedFieldsAreWritten_fault :
    (let i : Issued := ⟨7, ⟨.poller, 0x18E18, .status 0x8E18 [0, 0, 0, 0]⟩, true, 0⟩
     let s := { attached with arbiter := { attached.arbiter with path := some i } }
     s.shaped ∧ s.port.attached = true ∧ s.arbiter.path = some i ∧ i.live = true ∧
      i.request.work = .status 0x8E18 [0, 0, 0, 0] ∧ s.poller.order = [] ∧ s.outstandingAt i.tag = none ∧
      (after .sendTimeout s).port.attached = true ∧ (after (.linkRequestFault 7 .error) s).port.attached = true ∧
      (statusOffsets (after .sendTimeout s)).head? = some 0x8E18) ∧
    (∀ f ∈ statusFields attached, f.off ≠ 0x8E18 → ∀ bytes,
      (⟨.poller, 0x18E18, .status 0x8E18 [0, 0, 0, 0]⟩ : Request).work ≠ .status f.off bytes) := by
  refine ⟨⟨⟨rfl, rfl, rfl, by intro d; cases d <;> rfl, rfl⟩, rfl, rfl, rfl, rfl, rfl, rfl, ?_, ?_, ?_⟩, fun f _ h b e => ?_⟩
  · decide +kernel
  · decide +kernel
  · decide +kernel
  · have e : Work.status 0x8E18 [0, 0, 0, 0] = .status f.off b := e
    injection e with e
    exact h e.symm

theorem witness_CommandsWithoutEffect :
    (0x500 : Word).extractLsb' 8 3 = 5 ∧ (0x700 : Word).extractLsb' 8 3 = 7 ∧ (0x800 : Word).extractLsb' 8 3 = 0 ∧
    (0x100 : Word).extractLsb' 8 3 = 1 ∧ (0x400 : Word).extractLsb' 8 3 = 4 ∧ 3 < 4 ∧ 24 ≤ 24 ∧ 31 < 32 ∧ 4 ≤ 23 := by
  decide

/-! ### The register window and the notice unit -/

theorem witness_AreaBaseWrite :
    State.reset.port.attached = false ∧ State.reset.port.attachResult ≠ .pending ∧ attached.port.attached = true ∧
    attaching.port.attachResult = .pending := by decide

theorem witness_CauseFlags : (0x80 : Word).getLsbD Flag.audioClip.bit = true ∧
    (1 : Word).getLsbD Flag.askAnswered.bit = true := by decide

theorem witness_NoticeCountsAndRecord : attached.shaped ∧ Flag.audioClip.bit = 7 := ⟨attached_shaped, rfl⟩

/-- A message pending, and the path as given. -/
def messaging (p : Option Issued) : State := { attached with
  notice := { attached.notice with message := true }, arbiter := { attached.arbiter with path := p } }

/-- A status write on its way. -/
def someWrite : Issued := ⟨7, ⟨.poller, 0x18000, .status 0x8000 [1]⟩, true, 0⟩

theorem witness_MessageIsSent :
    (messaging none).notice.message = true ∧ (messaging none).arbiter.path = none ∧
    (messaging (some (readOf .poller .vehicle 16))).arbiter.path = some (readOf .poller .vehicle 16) ∧
    (readOf .poller .vehicle 16).request.isRead = true ∧ attached.notice.message = false ∧
    (messaging (some someWrite)).arbiter.path = some someWrite ∧ someWrite.request.isRead = false := by decide

theorem witness_AttachStarts :
    (let s := { State.reset with port := { State.reset.port with areaLo := 0xFFFF } }
     s.port.attached = false ∧ s.port.attachResult ≠ .pending ∧ s.port.base.toNat % 65536 ≠ 0) ∧
    (let s := { State.reset with port := { State.reset.port with areaLo := 0x10000, areaHi := 1 } }
     s.port.attached = false ∧ s.port.attachResult ≠ .pending ∧ s.port.base.toNat % 65536 = 0) ∧
    attached.port.attached = true ∧ attaching.port.attachResult = .pending := by decide

theorem witness_HeaderReadEnds :
    (awaiting .poller .header 256 attaching).awaits 7 (readOf .poller .header 256) .header 256 ∧
    attaching.port.attached = false ∧ attaching.port.attachResult = .pending ∧ goodHeader.length = 256 ∧
    headerGood goodHeader = true ∧ (List.replicate 256 (0 : Byte)).length = 256 ∧
    headerGood (List.replicate 256 0) = false :=
  ⟨awaiting_awaits _ _ _ _, rfl, rfl, by decide +kernel, by decide +kernel, by decide +kernel, by decide +kernel⟩

theorem witness_HeaderReadEnds_guides : attaching.guide.shown = none ∧
    ({ attaching.guide with shown := some ⟨.live, 0, none, [], [], none, none, none, none, ⟨0, 0, 1, 1⟩⟩ }).shown ≠ none :=
  ⟨rfl, nofun⟩

theorem witness_InitialContents :
    (let s := awaiting .poller .header 256 { attaching with
        poller := { attaching.poller with order := [⟨.poller, 0x10000, .read .vehicle 16⟩] } }
     s.awaits 7 (readOf .poller .header 256) .header 256 ∧ s.port.attached = false ∧
      s.port.attachResult = .pending ∧ s.shaped ∧ s.poller.order ≠ [] ∧ ∀ r ∈ s.poller.order, r.isRead = true) ∧
    goodHeader.length = 256 ∧ headerGood goodHeader = true :=
  ⟨⟨⟨rfl, rfl, rfl⟩, rfl, rfl, ⟨rfl, rfl, rfl, by intro d; cases d <;> rfl, rfl⟩, by decide, by decide⟩,
    by decide +kernel, by decide +kernel⟩

/-- 11.8, R200: the first fields of the page of a part attached once, and those of an index and a level that are none. -/
theorem test_page_fields :
    ((statusFields attached).take 3).map (fun f => (f.off, f.rank, f.data)) =
      [(0x8000, 3, [1, 0, 0, 0]), (0x8004, 3, [1, 0, 0, 0]), (0x8008, 0, [0, 0, 0, 0])] ∧
    ((statusFields attached).filter fun f => f.off == 0x8648 || f.off == 0x8A08 || f.off == 0x8A80).map
      (fun f => (f.off, f.data.take 4)) =
      [(0x8648, [0xFF, 0xFF, 0xFF, 0xFF]), (0x8A08, [0xFF, 0xFF, 0xFF, 0xFF]), (0x8A80, [0, 5, 0xD0, 2])] := by
  decide +kernel

theorem witness_DetachEffect :
    attached.port.attached = true ∧ attaching.port.attached = false ∧ attaching.port.attachResult = .pending ∧
    State.reset.port.attached = false ∧ State.reset.port.attachResult ≠ .pending := by decide

/-- A frame that the writer has not finished, received with stores, and a kept record without any. -/
def unfinished : State := { attached with capture := { attached.capture with
  frames := [{ someKept with
    toWriter := true
    closed := true
    target := some 1
    record := { CameraRecord.reset with stores := some ⟨0x100000, 0x300000, 0x500000⟩ } }]
  buffer := [⟨0, 3, [1, 2, 3, 4], true, false, 0, true⟩] } }

/-- R69, R175: it is written to its own store while ATTACHED, and after a DETACH nothing of it is left to write. -/
theorem witness_DetachEffect_writer :
    unfinished.port.attached = true ∧ unfinished.storesInUse = false ∧
    (∀ l ∈ unfinished.capture.buffer, l.forWriter = true →
      ∀ f ∈ unfinished.capture.frames, f.id = l.frame → f.toWriter = true) ∧
    waitingRequest unfinished .storeWriter = some ⟨.storeWriter, 0x301E00, .store 0 3 [1, 2, 3, 4]⟩ ∧
    waitingRequest (after .detach unfinished) .storeWriter = none := by decide +kernel

/-- R78, R57, R63: DETACH lets the capture state follow the drop of the need; a camera that waits in STOPPING for frames
which DETACH abandons goes OFF, or on in POWERING when the reverse view holds it; one that the view holds stays. -/
theorem test_detach_and_the_camera :
    let s (c : CaptureState) (asked hold writer : Bool) : State := { attached with capture := { attached.capture with
      state := c, askedOn := asked, hold := hold, frames := [{ someKept with toWriter := writer, toFront := !writer }] } }
    [s .armed true false true, s .capturing true false true, s .capturing true false false, s .capturing true true true,
      s .stopping false true true, s .stopping true false false, s .off true false true].map
      (fun u => ((after .detach u).capture.state, (after .detach u).capture.frames.length)) =
      [(.off, 0), (.off, 0), (.stopping, 1), (.capturing, 0), (.powering, 0), (.stopping, 1), (.off, 0)] := by
  decide +kernel

/-- R119, R141, R88: DETACH sends every route to MUTE by a ramp from its gain, and forgets the tray, but not an internal
chime, and the guide set. -/
theorem test_detach_forgets :
    let s : State := { attached with
      mixer := { attached.mixer with routes := attached.mixer.routes.map fun p => p.map fun r =>
        { r with level := some 0, gain := 100, target := 32768 } }
      chime := { attached.chime with
        waiting := [{ someChime 2 3 1 with source := .cameraUnavailable }, someChime 3 2 2]
        voice := .sounding ⟨someChime 7 1 0, true, .none, 5, 0, false⟩ } }
    let t := after .detach s
    t.route ⟨.f1, .phonesL⟩ = ⟨none, 36, none, 100, 0, some ⟨100, 0, 0⟩⟩ ∧
    t.chime.waiting.map (fun x => x.source) = [.cameraUnavailable] ∧
    t.chime.voice = .sounding ⟨someChime 7 1 0, false, .forgotten, 5, 0, false⟩ := by decide +kernel

/-- QUIET, with the asked-on mark and the hold of the reverse view. -/
def quieted (asked hold : Bool) : State := { attached with
  port := { attached.port with quiet := true }, capture := { attached.capture with askedOn := asked, hold := hold } }

theorem witness_QuietAndWake :
    (attached.shaped ∧ attached.port.quiet = false ∧ attached.capture.askedOn = false) ∧
    (∀ asked hold, (quieted asked hold).port.quiet = true ∧ (quieted asked hold).capture.askedOn = asked ∧
      (quieted asked hold).capture.hold = hold ∧ (quieted asked hold).capture.state = .off) :=
  ⟨⟨attached_shaped, rfl, rfl⟩, fun _ _ => ⟨rfl, rfl, rfl, rfl⟩⟩

/-- ACTIVE and asked on, in a capture state. -/
def askedOn (c : CaptureState) : State := { cameraIn c attached with
  capture := { attached.capture with askedOn := true, state := c } }

theorem witness_QuietAndWake_drops :
    (∀ c, (askedOn c).port.quiet = false ∧ (askedOn c).capture.askedOn = true ∧ (askedOn c).capture.hold = false ∧
      (askedOn c).capture.state = c ∧ (askedOn c).capture.frames = [] ∧ (askedOn c).capture.i2c = none) ∧
    ({ (askedOn .setup).capture with i2c := some [0] }).i2c ≠ none ∧
    ({ (askedOn .capturing).capture with frames := [someKept] }).frames ≠ [] ∧
    (∀ kept : Bool, let s := { askedOn .stopping with
        port := { attached.port with quiet := true }
        capture := { (askedOn .stopping).capture with
          openFrame := if kept then .kept 0 else .none, frames := [someKept] } }
      s.port.quiet = true ∧ s.capture.state = .stopping ∧ s.capture.openKept = kept) :=
  ⟨fun _ => ⟨rfl, rfl, rfl, rfl, rfl, rfl⟩, nofun, nofun, by decide⟩

/-- R184, R57, R64: QUIET takes an armed camera that no reverse view holds to OFF, one CAMERA_CHANGE counted. -/
theorem test_quiet_switches_the_camera_off :
    (match exec .quiet (askedOn .armed) with
      | .next t => (t.capture.state, t.notice.counts, t.notice.cause)
      | _ => (.armed, [], 0)) = (.off, [0, 0, 0, 1, 0, 0, 0, 0], 8) := by decide +kernel

theorem witness_Resets :
    (messaging (some someWrite)).arbiter.path = some someWrite ∧
    (messaging (some (readOf .poller .vehicle 16))).arbiter.path = some (readOf .poller .vehicle 16) ∧
    attached.arbiter.path = none ∧
    ∃ t f, exec .linkReset (drawing .rearL someFrame attached) = .next t ∧ (t.composer .rearL).frame = some f :=
  ⟨rfl, rfl, rfl, _, _, rfl, rfl⟩

/-! ### The ask board and the composers -/

theorem witness_AskIsAnswered :
    attached.shaped ∧ (11 : Nat) < 12 ∧ (10 : Nat) ≠ 11 ∧ AskResult.done ≠ .empty ∧
    (∀ st, ¬State.reset.mayTake (streamSlot st) 1) ∧ (∀ d, ¬attached.mayTake (displaySlot d) 0) ∧
    ¬(attached.onSlot cameraSlot fun x => { x with reading := some 4 }).mayTake cameraSlot 1 ∧
    ¬({ attached with poller := { attached.poller with mixerWaits := true } }).mayTake mixerSlot 1 ∧
    ¬({ attached with poller := { attached.poller with passed := [cameraSlot] } }).mayTake cameraSlot 1 := by
  refine ⟨attached_shaped, by decide, by decide, by decide, fun _ h => ?_, fun d h => ?_, fun h => ?_, fun h => ?_,
    fun h => ?_⟩
  · exact absurd h.1 (by decide)
  · exact absurd h.2.2.1 (by cases d <;> decide)
  · exact absurd h.2.1 (by decide)
  · exact absurd (h.2.2.2.1 rfl) (by decide)
  · exact absurd (List.mem_singleton.mpr rfl) h.2.2.2.2

theorem witness_AskBoardAndSpareSlots :
    (awaiting .poller (.askBoard false) 256 attached).awaits 7 (readOf .poller (.askBoard false) 256)
      (.askBoard false) 256 ∧
    (awaiting .poller (.askBoard true) 128 attached).awaits 7 (readOf .poller (.askBoard true) 128)
      (.askBoard true) 128 ∧
    attached.mayTake 7 1 ∧ attached.mayTake 11 1 ∧ ¬attached.mayTake 7 0 ∧ 6 < 7 ∧ 12 ≤ 12 :=
  ⟨awaiting_awaits _ _ _ _, awaiting_awaits _ _ _ _, attached_mayTake 7 (by decide), attached_mayTake 11 (by decide),
    fun h => absurd h.2.2.1 (by decide), by decide, by decide⟩

theorem witness_AskBoardAndSpareSlots_codes :
    (∀ n, n < 7 → attached.mayTake n 1) ∧ (∀ code : Word, (⟨1, code, sixZeros⟩ : Ask).code = code) ∧
    (4 : Word) ∉ [1, 2, 3] ∧ (0 : Word) ∉ [0x10, 0x11, 0x12] ∧ (0x30 : Word) ∉ [0x20, 0x21, 0x22] ∧ (0 : Word) ≠ 0x30 ∧
    (let s := attached.onStream .f0 fun f => { f with waitingPlay := some 9 }
     s.mayTake 0 1 ∧ (s.stream .f0).waitingPlay = some 9) :=
  ⟨fun n h => attached_mayTake n (by omega), fun _ => rfl, by decide, by decide, by decide, by decide,
    attached_mayTake 0 (by decide), rfl⟩

theorem witness_DisplayMixerAndLoadAsks :
    (∀ d, attached.mayTake (displaySlot d) 1) ∧ attached.mayTake mixerSlot 1 ∧ attached.mayTake cameraSlot 1 ∧
    (cameraIn .armed attached).mayTake cameraSlot 1 ∧ noParams sixZeros ∧ ¬noParams oneParam ∧
    attached.capture.state = .off ∧ (cameraIn .armed attached).capture.state ≠ .off :=
  ⟨fun d => by cases d <;> exact attached_mayTake _ (by decide), attached_mayTake 6 (by decide),
    attached_mayTake 2 (by decide), attached_mayTake 2 (by decide), sixZeros_noParams, oneParam_not_noParams, rfl,
    by decide⟩

/-- A DISPLAY_TIMING of FRONT in reading, with a mode of FRONT. -/
def timingAsked (m : FrontMode) : State := awaiting .poller (.timing .front) 16
  { attached.onSlot 3 (fun x => { x with reading := some 4 }) with frontView := ⟨m, false, false⟩ }

theorem witness_TimingRecordRead :
    (timingAsked .normal).awaits 7 (readOf .poller (.timing .front) 16) (.timing .front) 16 ∧
    ((timingAsked .normal).slot (displaySlot .front)).reading = some 4 ∧ timingBytes.length = 16 ∧
    timingValid .front timingBytes = true ∧ timingValid .front (List.replicate 16 0) = false ∧
    (timingAsked .normal).frontView.mode = .normal ∧ (timingAsked .direct).frontView.mode ≠ .normal ∧
    ((timingAsked .direct).slot (displaySlot .front)).reading = some 4 :=
  ⟨awaiting_awaits _ _ _ _, rfl, rfl, by decide, by decide, rfl, by decide, rfl⟩

theorem witness_TimingRecordRead_fault :
    (timingAsked .normal).shaped ∧ (timingAsked .normal).arbiter.consecutive.get .poller < 15 ∧
    (after (.timingRecordReadDone 7 .error) (timingAsked .normal)).arbiter.total = 1 :=
  ⟨⟨rfl, rfl, rfl, by intro d; cases d <;> rfl, rfl⟩, by decide, by decide +kernel⟩

theorem witness_SelectWordRead :
    (awaiting .poller (.select .front) 8 attached).awaits 7 (readOf .poller (.select .front) 8) (.select .front) 8 ∧
    (let s := attached.onComposer .front fun c => { c with lastSelect := some (1, 5) }
     (s.composer .front).lastSelect = some (wordAt [1, 0, 0, 0, 5, 0, 0, 0] 0, wordAt [1, 0, 0, 0, 5, 0, 0, 0] 4)) ∧
    (attached.composer .front).lastSelect = none ∧ 2 ≤ (wordAt [2, 0, 0, 0, 5, 0, 0, 0] 0).toNat ∧
    (wordAt [1, 0, 0, 0, 5, 0, 0, 0] 0).toNat < 2 :=
  ⟨awaiting_awaits _ _ _ _, by decide, rfl, by decide, by decide⟩

theorem witness_RequestSplitting : (requestsOf 0x1F0 300)[2]? = some (0x300, 28) ∧
    (∀ l ∈ [someLayer], 0 ≤ l.clip.y) ∧ someLayer.source.pixels = some ⟨0x40000, 64, .argb8888, 0, 0, 16, 4⟩ ∧
    (framePlan .full 4 [someLayer]).map (fun x => (x.line, x.row)) = [(0, 0), (0, 1), (0, 2), (1, 3)] ∧
    2 ∈ someLayer.needs .full 4 0 ∧ [0, 1, 3].Pairwise (· < ·) ∧
    (twinPlan .reduced 8 ⟨0, 0, 4, 4⟩ 0 [0, 1, 3]).map (fun x => (x.line, x.row)) =
      [(0, 0), (0, 1), (1, 2), (1, 3), (3, 6), (3, 7)] := by decide

/-- A frame with a row still to be fetched from byte 32 on. -/
def fetchingRow : State := attached.onComposer .rearL fun c =>
  { c with frame := some ⟨1, false, 16, 4, 0, false, .full, [someLayer], [⟨0, 0, 2, 32⟩], false, none, true, none⟩ }

/-- Twin fetch at the same place. -/
def fetchingTwin : State := { attached with twin := { attached.twin with
  inUse := true, serial := 2, pixels := ⟨0x40000, 64, .argb8888, 0, 0, 16, 16⟩, plan := [⟨0, 0, 2, 32⟩] } }

theorem witness_RequestSplitting_requests :
    ((fetchingRow.composer .rearL).frame.map (·.plan) = some [⟨0, 0, 2, 32⟩] ∧
      (fetchingRow.composer .rearR).frame = none ∧
      someLayer.source.pixels = some ⟨0x40000, 64, .argb8888, 0, 0, 16, 4⟩) ∧
    (fetchingTwin.twin.inUse = true ∧ fetchingTwin.twin.plan = [⟨0, 0, 2, 32⟩] ∧ attached.twin.inUse = false) ∧
    (∀ l ∈ attached.capture.buffer, l.forWriter = false) ∧
    (unfinished.capture.buffer = [] ++ ⟨0, 3, [1, 2, 3, 4], true, false, 0, true⟩ :: [] ∧
      (unfinished.capture.frames.find? fun x => x.id == 0).map (fun f => (f.target, f.record.stores)) =
        some (some 1, some ⟨0x100000, 0x300000, 0x500000⟩)) ∧
    storedBytes true [1, 2, 3, 4] = [4, 2, 1, 255, 4, 2, 3, 255] := by decide +kernel

/-- REAR_L with a candidate in reading. -/
def candidateRead (size : Option Nat) (got : List (Nat × List Byte)) : State :=
  attached.onComposer .rearL fun c => { c with candidateSerial := 3, candidate := .reading 3 .a 5 size got }

theorem witness_BankRead :
    ((candidateRead none []).composer .rearL).candidate = .reading 3 .a 5 none [] ∧
    (awaiting .poller (.bankCount .rearL 3) 4 (candidateRead none [])).awaits 7
      (readOf .poller (.bankCount .rearL 3) 4) (.bankCount .rearL 3) 4 ∧
    8 < (wordAt [9, 0, 0, 0] 0).toNat ∧ (wordAt [0, 0, 0, 0] 0).toNat = 0 ∧ (wordAt [8, 0, 0, 0] 0).toNat = 8 ∧
    (awaiting .poller (.bankEntries .rearL 3 0) 64 (candidateRead (some 1) [])).awaits 7
      (readOf .poller (.bankEntries .rearL 3 0) 64) (.bankEntries .rearL 3 0) 64 ∧
    64 * 1 ≤ (runBytes (insertRun 0 (List.replicate 64 0) [])).length ∧
    (runBytes (insertRun 0 (List.replicate 64 0) [])).length < 64 * 2 ∧
    (candidateRead none []).arbiter.consecutive.get .poller < 15 :=
  ⟨rfl, awaiting_awaits _ _ _ _, by decide, by decide, by decide, awaiting_awaits _ _ _ _, by decide, by decide,
    by decide⟩

/-- 11.3, R198: a FILL, a PICTURE, a FILM and a CAMERA entry written out byte by byte. -/
theorem witness_BankRead_entry :
    entryAt [1, 0xFD, 200, 0, 0xFF, 0xFF, 2, 0xE0, 64, 0, 0, 1, 10, 20, 30, 40] 0 =
      ⟨5, 200, ⟨-1, 2, 64, 256⟩, .fill 40 30 20 10, false⟩ ∧
    entryAt ([2, 1, 255, 0, 0, 0, 0, 0, 16, 0, 4, 0, 0, 0, 0, 0, 0x00, 0x01, 0x02, 0, 0, 0, 0, 0x80, 0x40, 0x01, 0, 0,
        1, 0, 0, 0, 2, 0, 3, 0, 16, 0, 4, 0]) 0 =
      ⟨1, 255, ⟨0, 0, 16, 4⟩, .picture 0x8000000000020100 0x140 1 2 3 16 4, false⟩ ∧
    (entryAt (padded 16 [3] ++ [1, 0]) 0).body = .film 1 0 ∧ (entryAt [4] 0).body = .camera ∧
    (entryAt [5] 0).body = .unknown 5 ∧ (entryAt [0] 0).body = .none ∧
    (checkedEntries .rearL ⟨0, 0, 64, 64⟩ (padded 64 [0] ++ [4]) 2).map (·.bad) = [false, true] := by decide +kernel

/-- The rear displays paired. -/
def pairedRear : State := attached.onComposer .rearR fun c => { c with timing := { c.timing with pair := true } }

theorem witness_RearFrameStart :
    attached.paired = false ∧ attached.composers.rearR.waiting = none ∧
    (let s := attached.onComposer .rearR fun c => { c with waiting := some rearTiming }
     s.paired = false ∧ ∀ w, s.composers.rearR.waiting = some w → w.pair = false) ∧
    pairedRear.paired = true ∧ pairedRear.composers.rearR.waiting = none ∧ attached.port.attached = true := by
  refine ⟨rfl, rfl, ⟨rfl, fun w h => ?_⟩, rfl, rfl, rfl⟩
  have : rearTiming = w := Option.some.inj h
  rw [← this]; rfl

/-- A bank with one entry: a film entry of F0, letterboxed, at the top left. -/
def filmBank : Shown := ⟨.a, 1, [⟨0, 255, ⟨0, 0, 64, 32⟩, .film 0 0, false⟩]⟩

/-- A frame card of 32 by 32 pixels from pts 0, in the list as its first. -/
def someCard : FrameCard := ⟨0, 0x40000, 128, 32, 32, 1, 0, 2000, 0, true, false⟩

/-- F0 in a state with that card held, and each rear display with the film bank shown. -/
def showing (f : StreamState) (s : State) : State :=
  (([Display.rearL, .rearR].foldl (fun u d => u.onComposer d fun c => { c with shown := some filmBank }) s).onStream .f0
    fun x => { x with state := f, framePosted := 1, frames := [someCard] })

theorem witness_RearFrameStart_latch :
    (let s := (showing .playing pairedRear).onComposer .rearR fun c => { c with candidate := .waiting filmBank }
     s.paired = true ∧ s.port.attached = true ∧ (s.composer .rearR).candidate = .waiting filmBank ∧
      (s.composer .rearL).candidate = .none) ∧
    (∃ t f, exec (.frameStart .rearL) (showing .playing pairedRear) = .next t ∧ t.composers.rearL.frame = some f ∧
      f.blank = false ∧ f.layers ≠ [] ∧ t.showsFilm .rearL .f0) :=
  ⟨⟨rfl, rfl, rfl, rfl⟩, _, _, rfl, rfl, by decide +kernel, by decide +kernel,
    by decide +kernel, nofun, by decide +kernel⟩

theorem witness_RearFrameStart_pairing :
    (let s := attached.onComposer .rearR fun c => { c with waiting := some { rearTiming with pair := true } }
     s.paired = false ∧ s.composers.rearR.waiting = some { rearTiming with pair := true }) ∧
    (let s := pairedRear.onComposer .rearR fun c => { c with waiting := some rearTiming }
     s.paired = true ∧ s.composers.rearR.waiting = some rearTiming ∧ rearTiming.pair = false) :=
  ⟨⟨rfl, rfl⟩, rfl, rfl, rfl⟩

theorem witness_RearFrameStart_shows (f : StreamState) :
    ((showing f attached).stream .f0).state = f ∧
    ∃ t, exec (.frameStart .rearL) (showing f attached) = .next t ∧ (t.composer .rearL).blank = false ∧
      ∃ e ∈ (t.composer .rearL).entries, e.isFilmOf .f0 = true :=
  ⟨rfl, by cases f <;> exact ⟨_, rfl, by decide +kernel, by decide +kernel⟩⟩

theorem witness_RearFrameStart_twin :
    ∃ t, exec (.frameStart .rearL) (showing .playing pairedRear) = .next t ∧ t.twin.inUse = true :=
  ⟨_, rfl, by decide +kernel⟩

theorem witness_RearFrameStart_selection :
    let f := (showing .playing attached).stream .f0
    f.selected .rearL 0 = some someCard ∧ f.selected .rearL 0xFFFFFFFF = none ∧
    ({ f with current := ⟨none, some 0, none⟩ }).runsUnder .rearL 2000 = true := by decide

/-- FRONT in DIRECT, locked or not, with the leave mark or not. -/
def directView (locked leave : Bool) : State := { attached with frontView := ⟨.direct, locked, leave⟩ }

theorem witness_FrontFrameStart :
    (∀ p : Bool × Bool, p ≠ (true, false) →
      ¬((directView p.1 p.2).frontView.mode = .direct ∧ (directView p.1 p.2).frontView.locked = true ∧
        (directView p.1 p.2).frontView.leave = false)) ∧
    ((directView true false).frontView.mode = .direct ∧ (directView true false).frontView.locked = true ∧
      (directView true false).frontView.leave = false) := by
  refine ⟨fun p => ?_, rfl, rfl, rfl⟩
  rcases p with ⟨a, b⟩
  cases a <;> cases b <;> decide

/-- FRONT in a mode, with a fill entry in its bank, stores in use, store 1 published and the view SHOWING or OFF. -/
def frontIn (m : FrontMode) (v : View) : State :=
  { attached.onComposer .front fun c => { c with
      shown := some ⟨.a, 1, [⟨0, 255, ⟨0, 700, 64, 20⟩, .fill 255 1 2 3, false⟩]⟩ } with
    frontView := ⟨m, false, false⟩
    reverse := { attached.reverse with view := v, delivered := true }
    capture := { attached.capture with
      record := { CameraRecord.reset with stores := some ⟨0x100000, 0x300000, 0x500000⟩ }
      published := some ⟨1, 5⟩ } }

/-- The sources of the layers of the FRONT frame that begins, with the mode and the store it reads. -/
def frontStack (s : State) : Option (FrontMode × Option Nat × List LayerSource) :=
  match exec (.frameStart .front) s with
  | .next t => t.composers.front.frame.map fun f => (t.frontView.mode, t.capture.frontReading, f.layers.map (·.source))
  | _ => none

/-- R154 to R157: a shown frame in each mode, with the strip's fill, and the store where the camera layer reads one. -/
theorem witness_FrontFrameStart_modes :
    frontStack (frontIn .normal .off) = some (.normal, none, [.fill ⟨255, 1, 2, 3⟩]) ∧
    (frontStack (frontIn .normal .showing)).map (fun x => (x.1, x.2.1)) = some (.reverse, some 1) ∧
    (frontStack (frontIn .normal .unavailable)).map (fun x => (x.1, x.2.1)) = some (.reverse, none) ∧
    (frontStack { frontIn .direct .waking with capture := attached.capture }).map (fun x => (x.1, x.2.1)) =
      some (.direct, none) := by decide +kernel

theorem witness_FrontFrameStart_cover :
    frontStack { frontIn .normal .showing with capture := { attached.capture with published := some ⟨1, 5⟩ } } =
      some (.normal, none, [.fill ⟨255, 1, 2, 3⟩, .black]) := by decide +kernel

/-- REAR_L between frames with a level, a history and a held level. -/
def judged (l : Level) (h : List LateMark) (held : Option Level) : State :=
  attached.onComposer .rearL fun c => { c with level := l, history := h, held := held }

theorem witness_QualityLevelSteps :
    (judged .full [] none).paired = false ∧ ((judged .full [] none).composer .rearL).frame = none ∧
    (3 ≤ ((judged .reduced [.late, .onTime, .late, .late, .onTime, .onTime, .onTime, .empty] none).composer
      .rearL).history.count .late) ∧
    (∀ m ∈ ((judged .reduced (List.replicate 8 .onTime) (some .full)).composer .rearL).history, m = .onTime) ∧
    ((judged .full (List.replicate 8 .onTime) (some .reduced)).composer .rearL).held ≠ none ∧
    ((judged .full (List.replicate 8 .onTime) none).composer .rearL).held = none ∧
    (¬∀ m ∈ ((judged .full (List.replicate 8 .empty) none).composer .rearL).history, m = .onTime) ∧
    ((judged .full (List.replicate 8 .empty) none).composer .rearL).history.count .late < 3 ∧
    ((judged .minimal (List.replicate 8 .late) none).composer .rearL).level = .minimal := by
  refine ⟨rfl, rfl, ?_⟩; decide

theorem witness_QualityLevelSteps_displays :
    ((attached.composer .front).frame = none ∧ attached.frontView.mode ≠ .direct) ∧
    (pairedRear.paired = true ∧ pairedRear.composers.rearL.frame = none ∧ pairedRear.composers.rearR.frame = none) ∧
    (∃ t, exec (.frameStart .rearL) pairedRear = .next t ∧ t.twin.inUse = false) :=
  ⟨⟨rfl, by decide⟩, ⟨rfl, rfl, rfl⟩, _, rfl, by decide +kernel⟩

theorem witness_FrameEnd :
    (∀ d, ((drawing d someFrame attached).composer d).frame = some someFrame) ∧
    (drawing .rearR someFrame attached).paired = false ∧ attached.paired = false ∧
    (∀ d, (attached.composer d).frame = none) ∧
    (let s := drawing .rearL someFrame (drawing .rearR someFrame pairedRear)
     s.paired = true ∧ s.composers.rearL.frame = some someFrame ∧ s.composers.rearR.frame = some someFrame) ∧
    pairedRear.paired = true :=
  ⟨fun d => by cases d <;> rfl, rfl, rfl, fun d => by cases d <;> rfl, ⟨rfl, rfl, rfl⟩, rfl⟩

/-- R4, R20: a frame end of the pair ends the frame that one of the two alone has in progress. -/
theorem witness_FrameEnd_pair :
    (let s := drawing .rearL someFrame pairedRear
     s.paired = true ∧ s.composers.rearL.frame = some someFrame ∧ s.composers.rearR.frame = none) ∧
    (let s := drawing .rearR someFrame pairedRear
     s.paired = true ∧ s.composers.rearL.frame = none ∧ s.composers.rearR.frame = some someFrame) ∧
    (pairedRear.composers.rearL.frame = none ∧ pairedRear.composers.rearR.frame = none ∧
      (pairedRear.composer .front).frame = none) := ⟨⟨rfl, rfl, rfl⟩, ⟨rfl, rfl, rfl⟩, rfl, rfl, rfl⟩

/-- A frame with one layer of fetched rows. -/
def fetchedFrame : Frame := { someFrame with layers := [someLayer] }

theorem witness_LinesAndFetches :
    (someFrame.nextLine < someFrame.height ∧ someFrame.direct = none) ∧
    ((drawing .rearL { someFrame with nextLine := 4 } attached).composer .rearL).frame =
      some { someFrame with nextLine := 4 } ∧ someFrame.height ≤ 4 ∧
    (let s := drawing .rearL fetchedFrame (awaiting .rearL (.layerRow .rearL 1 0 0 0) 64 attached)
     s.awaits 7 (readOf .rearL (.layerRow .rearL 1 0 0 0) 64) (.layerRow .rearL 1 0 0 0) 64 ∧
      (s.composer .rearL).frame = some fetchedFrame) ∧
    fetchedFrame.fetchNeeded fetchedFrame.nextLine ⟨0, 0, 0, 0⟩ = true ∧
    fetchedFrame.fetchNeeded fetchedFrame.nextLine ⟨0, 1, 0, 0⟩ = false ∧ fetchedFrame.serial ≠ 0 :=
  ⟨⟨by decide, rfl⟩, rfl, by decide, ⟨⟨rfl, rfl, rfl⟩, rfl⟩, by decide, by decide, by decide⟩

/-- R16, R17: a pixel of a layer's line is drawn over the canvas from the line's first column on, and no other. -/
theorem witness_LinesAndFetches_canvas :
    let line : LayerLine := ⟨1, [⟨255, 9, 9, 9⟩]⟩
    let canvas : List Rgb := [⟨1, 2, 3⟩, ⟨4, 5, 6⟩, ⟨7, 8, 9⟩]
    canvas[1]? = some ⟨4, 5, 6⟩ ∧ ((1 : Nat) : Int) = line.x0 + (0 : Nat) ∧ line.pixels[0]? = some ⟨255, 9, 9, 9⟩ ∧
    ((2 : Nat) : Int) = line.x0 + (1 : Nat) ∧ line.pixels.length ≤ 1 ∧
    drawLine 255 line canvas = [⟨1, 2, 3⟩, ⟨9, 9, 9⟩, ⟨7, 8, 9⟩] := by decide

theorem witness_LinesAndFetches_scaled :
    (∃ t ∈ taps .full 4 someLayer.dest.h (0 - someLayer.dest.y).toNat, (fun r => if r = 1 then none else some ([] : List Argb))
      t.1 = none) ∧
    (∀ t ∈ taps .full 4 someLayer.dest.h (0 - someLayer.dest.y).toNat, (fun _ => some ([] : List Argb)) t.1 = some []) :=
  by decide

/-- A frame of FRONT that takes the camera frame 0 direct, one camera row to a line, closed or not. -/
def directFrame (closed : Bool) : Frame := { someFrame with
  lineStarted := false
  locked := true
  layers := [{ someLayer with source := .direct }]
  direct := some ⟨0, closed, 16, 4⟩ }

/-- FRONT at that frame, with camera rows in the line buffer. -/
def takingDirect (f : Frame) (rows : List Nat) : State :=
  drawing .front f { attached with capture := { attached.capture with
    buffer := rows.map fun r => ⟨0, r, [], false, true, 0, false⟩ } }

theorem witness_LinesAndFetches_direct :
    (∀ f rows, (takingDirect f rows).composers.front.frame = some f) ∧
    (directFrame false).nextLine < (directFrame false).height ∧
    ({ directFrame false with lineStarted := true }).lineStarted = true ∧
    (directFrame true).direct = some ⟨0, true, 16, 4⟩ ∧ (directFrame false).direct = some ⟨0, false, 16, 4⟩ ∧
    (∀ l ∈ (directFrame false).layers, l.source = .direct ∧ ∀ r ∈ l.needs .full 4 0,
      ∃ b ∈ (takingDirect (directFrame false) [0, 1, 2]).capture.buffer, b.frame = 0 ∧ b.row = r) ∧
    (∃ l ∈ (directFrame false).layers, ∃ r ∈ l.needs .full 4 0,
      ∀ b ∈ (takingDirect (directFrame false) []).capture.buffer, b.frame = 0 → b.row ≠ r) := by
  refine ⟨fun _ _ => rfl, ?_⟩; decide

/-- The rear displays paired with a shared film layer of 16 by 16 pixels. -/
def twinned : State := { pairedRear with twin := { pairedRear.twin with
  inUse := true, serial := 2, pixels := ⟨0x40000, 64, .argb8888, 0, 0, 16, 16⟩, destH := 16 } }

theorem witness_LinesAndFetches_twin :
    (let s := awaiting .twin (.twinRow 2 0 0) 64 twinned
     s.awaits 7 (readOf .twin (.twinRow 2 0 0) 64) (.twinRow 2 0 0) 64 ∧ s.twin.inUse = true ∧ s.twin.serial = 2) ∧
    (let s := drawing .rearL someFrame (drawing .rearR someFrame twinned)
     twinFirst s = some 0) ∧ (1 : Nat) ≠ 2 ∧
    (drawing .rearL someFrame attached).composers.rearL.frame = some someFrame := by
  refine ⟨⟨⟨rfl, rfl, rfl⟩, rfl, rfl⟩, by decide +kernel, by decide, rfl⟩

/-- R18, 11.3: a row of each format, byte by byte: BGRA; an RGB565 value of 21, 43 and 10; the YUV pixel of 1.5.1. -/
theorem test_pixel_formats :
    rowPixels .argb8888 [1, 2, 3, 4, 5, 6, 7, 8] = [⟨4, 3, 2, 1⟩, ⟨8, 7, 6, 5⟩] ∧
    rowPixels .rgb565 [0x6A, 0xAD] = [⟨255, 173, 174, 82⟩] ∧
    rowPixels .yuyv [81, 90, 16, 240] = [fromYuv 81 90 240, fromYuv 16 90 240] ∧
    rowPixels .wide32 [240, 90, 81, 0] = [⟨255, 255, 0, 0⟩] := by decide

/-- The two halves of a row in either order, and after a fault of it. -/
theorem witness_LinesAndFetches_rows :
    (∀ b ∈ ([⟨1, [(0, [9])], false⟩] : List RowBuf), b.row ≠ 0) ∧
    ([((0 : Nat), [(1 : Byte), 2]), (2, [3, 4])].Pairwise fun a b => a.1 < b.1) ∧
    [((2 : Nat), [(3 : Byte), 4]), (0, [1, 2])].Perm [(0, [1, 2]), (2, [3, 4])] ∧
    readyRow (putChunk 0 0 [1, 2] (putChunk 0 2 [3, 4] [])) 4 0 = some [1, 2, 3, 4] ∧
    readyRow (putChunk 0 0 [1, 2] (putFault 0 (putChunk 0 2 [3, 4] []))) 4 0 = none ∧
    ([(1 : Byte), 2, 3, 4].length : Nat) = 4 * 0 + 4 ∧ someLayer.source = .picture ⟨0x40000, 64, .argb8888, 0, 0, 16, 4⟩ :=
  ⟨by decide, by decide, List.Perm.swap _ _ _, by decide, by decide, rfl, rfl⟩

/-- R20, R172: the fault of a fetch of a row still needed, of one not needed, and of the shared film row. -/
theorem witness_LinesAndFetches_faults :
    (let s := drawing .rearL fetchedFrame (awaiting .rearL (.layerRow .rearL 1 0 0 0) 64 attached)
     s.awaits 7 (readOf .rearL (.layerRow .rearL 1 0 0 0) 64) (.layerRow .rearL 1 0 0 0) 64 ∧
      s.arbiter.consecutive.get .rearL < 15 ∧ ([] : List Byte).length ≠ 64 ∧
      (((after (.composerFetchDone 7 .corrupted) s).composer .rearL).frame.map fun f => f.layers.map (·.rows)) =
        some [[⟨0, [], true⟩]]) ∧
    (let s := awaiting .twin (.twinRow 2 0 0) 64 twinned
     s.awaits 7 (readOf .twin (.twinRow 2 0 0) 64) (.twinRow 2 0 0) 64 ∧ s.arbiter.consecutive.get .twin < 15) := by
  refine ⟨⟨⟨rfl, rfl, rfl⟩, by decide, by decide, by decide +kernel⟩, ⟨rfl, rfl, rfl⟩, by decide⟩

/-! ### Film -/

/-- F0 in a stream state, with a PLAY waiting or not. -/
def streamIn (f : StreamState) (play : Option Word) : State :=
  attached.onStream .f0 fun x => { x with state := f, waitingPlay := play }

theorem streamIn_mayTake (f : StreamState) (play : Option Word) : (streamIn f play).mayTake (streamSlot .f0) 1 :=
  ⟨rfl, rfl, (by decide : (1 : Word) ≠ 0), fun _ => rfl, nofun⟩

theorem witness_StreamPlayAndPause :
    (∀ f, (streamIn f none).mayTake (streamSlot .f0) 1 ∧ ((streamIn f none).stream .f0).waitingPlay = none ∧
      ((streamIn f none).stream .f0).state = f) ∧
    ((([7, 1, 0, 0, 0, 0] : List Word).getD 1 0).toNat ≤ 1 ∧ noParams (([7, 1, 0, 0, 0, 0] : List Word).drop 2)) ∧
    ¬((([7, 2, 0, 0, 0, 0] : List Word).getD 1 0).toNat ≤ 1) ∧ noParams sixZeros ∧ ¬noParams oneParam ∧
    ((streamIn .priming (some 9)).shaped ∧ (streamIn .priming (some 9)).mayTake (streamSlot .f0) 1 ∧
      ((streamIn .priming (some 9)).stream .f0).waitingPlay = some 9) :=
  ⟨fun f => ⟨streamIn_mayTake f none, rfl, rfl⟩, ⟨by decide, by simp [noParams]⟩, by decide, sixZeros_noParams,
    oneParam_not_noParams, ⟨rfl, rfl, rfl, by intro d; cases d <;> rfl, rfl⟩, streamIn_mayTake _ _, rfl⟩

theorem witness_StreamPlayAndPause_superseding :
    (streamIn .priming (some 9)).mayTake (streamSlot .f0) 1 ∧
    ((streamIn .priming (some 9)).stream .f0).waitingPlay = some 9 ∧
    (([7, 0, 0, 0, 0, 0] : List Word).getD 1 0).toNat ≤ 1 ∧ noParams (([7, 0, 0, 0, 0, 0] : List Word).drop 2) ∧
    ¬noParams (([7, 0, 0, 0, 0, 1] : List Word).drop 2) :=
  ⟨streamIn_mayTake _ _, rfl, by decide, by simp [noParams], by simp [noParams]⟩

/-- R51: a PLAY over a waiting PLAY makes the stream STOPPED and PRIMING again, so state and mode are written. -/
theorem test_superseding_play_writes_state :
    (match exec (.streamPlay .f0 1 [7, 0, 0, 0, 0, 0]) (streamIn .priming (some 9)) with
      | .next t => (t.film.f0.state, (waitingOffsets t).filter fun o => decide (0x8400 ≤ o ∧ o < 0x8408))
      | _ => (.stopped, [])) = (.priming, [0x8400, 0x8404]) := by decide +kernel

theorem witness_StreamStop :
    (streamIn .playing none).shaped ∧ (streamIn .playing none).mayTake (streamSlot .f0) 1 ∧
    ((streamIn .playing none).stream .f0).waitingPlay = none ∧ noParams sixZeros ∧ ¬noParams oneParam ∧
    ((streamIn .priming (some 9)).stream .f0).waitingPlay = some 9 :=
  ⟨⟨rfl, rfl, rfl, by intro d; cases d <;> rfl, rfl⟩, streamIn_mayTake _ _, rfl, sixZeros_noParams,
    oneParam_not_noParams, rfl⟩

theorem witness_StreamStop_layers :
    ∃ t f, exec (.streamStop .f0 1 sixZeros) (drawing .rearL { someFrame with layers :=
        [{ someLayer with source := .film .f0 ⟨0x40000, 64, .argb8888, 0, 0, 16, 4⟩ },
         { someLayer with source := .twin .f0 }] }
        twinned) = .next t ∧ (t.composer .rearL).frame = some f ∧ f.layers.length = 2 ∧ twinned.twin.stream = .f0 :=
  ⟨_, _, rfl, rfl, by decide, rfl⟩

/-- R33, R24: a fetch of the shared film layer that is in flight at a STREAM_STOP brings nothing. -/
theorem test_stop_discards_a_twin_fetch :
    let s := awaiting .twin (.twinRow 2 0 0) 64 (drawing .rearL someFrame (drawing .rearR someFrame twinned))
    let bytes := List.replicate 64 (5 : Byte)
    (after (.composerFetchDone 7 (.data bytes)) s).twin.rows.length = 1 ∧
    (after (.composerFetchDone 7 (.data bytes)) (after (.streamStop .f0 1 sixZeros) s)).twin.rows = [] := by
  decide +kernel

theorem witness_PostedCounts :
    (awaiting .poller (.postedCounts .frames) 8 attached).awaits 7 (readOf .poller (.postedCounts .frames) 8)
      (.postedCounts .frames) 8 ∧
    isBefore (wordAt [0xFF, 0xFF, 0xFF, 0xFF, 0, 0, 0, 0] 0) ((attached.stream .f0).posted .frames) = true ∧
    isAfter (wordAt [17, 0, 0, 0, 0, 0, 0, 0] 0) ((attached.stream .f0).released .frames + 16) = true ∧
    isAfter (wordAt [16, 0, 0, 0, 0, 0, 0, 0] 0) ((attached.stream .f0).released .frames + 16) = false ∧
    isBefore (wordAt [0, 0, 0, 0, 0, 0, 0, 0] 4) ((attached.stream .f1).posted .frames) = false :=
  ⟨awaiting_awaits _ _ _ _, by decide, by decide, by decide, by decide⟩

/-- R34: the card at the read cursor is read when the copy has passed it, from its slot of the list. -/
theorem witness_PostedCounts_card :
    ∀ k ∈ [ListKind.frames, .sound],
      let s := awaiting .poller (.postedCounts k) 8 (attached.onStream .f1 fun f => { f with
        framePosted := 17, frameReleased := 17, frameCursor := 17, soundPosted := 33, soundReleased := 33, soundCursor := 33 })
      (match exec (.postedCountReadDone 7 (.data [0, 0, 0, 0, 34, 0, 0, 0])) s with
        | .next t => (t.readOrder.map fun r => r.addr, (t.stream .f1).cardReading k, (t.stream .f0).cardReading k)
        | _ => ([], false, false)) = (if k = .frames then ([0x13440], true, false) else ([0x13C20], true, false)) := by
  decide +kernel

/-- A frame card of 16 by 16 pixels, 64 bytes to a line, shown 2000 samples from pts 0. -/
def cardBytesGood : List Byte :=
  padded 64 (addrBytes 0x40000 ++ wordBytes 64 ++ [16, 0, 16, 0] ++ wordBytes 0 ++ wordBytes 0 ++ wordBytes 2000)

theorem witness_CardRead :
    (awaiting .poller (.card .f0 .frames 0 0) 64 attached).awaits 7 (readOf .poller (.card .f0 .frames 0 0) 64)
      (.card .f0 .frames 0 0) 64 ∧
    (awaiting .poller (.card .f0 .sound 0 0) 32 attached).awaits 7 (readOf .poller (.card .f0 .sound 0 0) 32)
      (.card .f0 .sound 0 0) 32 ∧
    (attached.stream .f0).intake = 0 ∧ (attached.stream .f0).intake ≠ 1 ∧ cardBytesGood.length = 64 ∧
    frameCardGood (frameCardOf cardBytesGood 0) = true ∧
    frameCardGood (frameCardOf (List.replicate 64 0) 0) = false :=
  ⟨awaiting_awaits _ _ _ _, awaiting_awaits _ _ _ _, rfl, by decide, by decide, by decide +kernel, by decide +kernel⟩

theorem witness_CardRead_fault :
    (awaiting .poller (.card .f1 .sound 0 0) 32 attached).awaits 7 (readOf .poller (.card .f1 .sound 0 0) 32)
      (.card .f1 .sound 0 0) 32 ∧
    (awaiting .poller (.card .f1 .sound 0 0) 32 attached).arbiter.consecutive.get
      (readOf .poller (.card .f1 .sound 0 0) 32).request.client < 15 := ⟨awaiting_awaits _ _ _ _, by decide⟩

theorem witness_AudioBlockEnd :
    (let s := { attached with poller := { attached.poller with mixerWaits := true } }
     s.shaped ∧ s.poller.mixerWaits = true ∧ s.port.attached = true) ∧
    (attached.stream .f0).state = .stopped ∧
    (let s := attached.onStream .f0 fun f => { f with
      state := .priming, mode := .free, frames := [{ frameCardOf cardBytesGood 0 with good := true }] }
     (s.stream .f0).state = .priming ∧ (s.stream .f0).mode = .free ∧
      ∃ c ∈ (s.stream .f0).frames, c.good = true) ∧
    (let s := attached.onStream .f0 fun f => { f with
      state := .priming, frames := [{ frameCardOf cardBytesGood 0 with good := true }]
      sounds := [⟨0, 0x50000, 100, 0, true, false⟩] }
     ∃ c ∈ liveCards (s.stream .f0).sounds, c.good = true) :=
  ⟨⟨⟨rfl, rfl, rfl, by intro d; cases d <;> rfl, rfl⟩, rfl, rfl⟩, rfl,
    ⟨rfl, rfl, _, List.mem_singleton.mpr rfl, rfl⟩, ⟨_, List.mem_singleton.mpr rfl, rfl⟩⟩

/-- A good sound card of 100 samples from a pts on. -/
def someSound (pts : Word) : SoundCard := ⟨0, 0x50000, 100, pts, true, false⟩

/-- F0 PRIMING from pts 1000 with a PLAY that waits, with the cards it needs or without. -/
def primingFilm (m : ClockMode) (has : Bool) : State := attached.onStream .f0 fun f => { f with
  state := .priming
  mode := m
  startPts := some 1000
  waitingPlay := some 7
  frames := if has then [{ frameCardOf cardBytesGood 0 with good := true }] else []
  sounds := [someSound 1100] }

theorem witness_AudioBlockEnd_priming :
    (∀ m has, (primingFilm m has).shaped ∧ ((primingFilm m has).stream .f0).state = .priming ∧
      ((primingFilm m has).stream .f0).mode = m) ∧
    (∃ c ∈ ((primingFilm .sound true).stream .f0).frames, c.good = true) ∧
    (∃ c ∈ liveCards ((primingFilm .sound true).stream .f0).sounds, c.good = true) ∧
    (∀ c ∈ ((primingFilm .sound false).stream .f0).frames, c.good = false) :=
  ⟨fun m has => ⟨⟨rfl, rfl, rfl, by intro d; cases d <;> rfl, rfl⟩, rfl, rfl⟩, by decide +kernel, by decide, by decide⟩

/-- R29, R30, R38: 100 samples of silence, 100 of the card, and then the list is dry. -/
theorem test_priming_ends_at_the_start_pts :
    (match exec .audioBlockEnd (primingFilm .sound true) with
      | .next t => ((t.stream .f0).state, (t.stream .f0).clock, (t.stream .f0).startPts, (t.slot 0).result)
      | _ => (.stopped, 0, none, .empty)) = (.starved, 1200, none, .done) := by decide +kernel

/-- F0 PLAYING in SOUND mode with a card at its clock, and the main voice with a clip of 100 samples played twice. -/
def soundAndClip : State := { attached with
  film := attached.film.update .f0 fun f => { f with state := .playing, mode := .sound, sounds := [someSound 0] }
  chime := { attached.chime with
    voice := .sounding ⟨{ someChime 7 1 1 with program := .clip 0x1000 100, repeats := 2 }, true, .none, 90, 0, false⟩ } }

/-- R42, R135: the reads of a block, the film's first, then the clip's rest and its next repetition from the first
sample. -/
theorem witness_AudioBlockEnd_queue :
    let t := after .audioBlockEnd soundAndClip
    t.port.attached = true ∧ t.chime.waiting = [] ∧ t.chime.clipEnded = none ∧
    t.chime.voice = soundAndClip.chime.voice ∧
    t.audio.queue.map (fun r => (r.addr, r.work)) =
      [(0x50000, .read (.soundSamples .f0 1 0) 256), (0x50100, .read (.soundSamples .f0 1 64) 144),
       (0x10B4, .read (.clipSamples 1 1 0 90) 20), (0x1000, .read (.clipSamples 1 1 1 0) 200)] := by decide +kernel

/-- R106, R110, R111, R118: a block start takes the duck and the mute handed on, and ends the quiet mute after a WAKE. -/
theorem test_inputs_move_the_targets :
    let s (duck mute quiet : Bool) : State := { attached with mixer := { attached.mixer with
      duckHanded := duck, muteHanded := mute, quietMute := quiet
      routes := attached.mixer.routes.map fun p => p.map fun r =>
        { r with level := some 24, duck := 36, gain := 16423, target := 16423 } } }
    [s false false false, s true false false, s false true false, s false false true].map (fun u =>
        let t := after .audioBlockEnd u
        ((t.route ⟨.f0, .cabin⟩).target, (t.route ⟨.f0, .cabin⟩).ramp, (t.route ⟨.f0, .phonesL⟩).target)) =
      [(8231, some ⟨16423, 8231, 0⟩, 8231), (1036, some ⟨16423, 1036, 0⟩, 8231), (0, some ⟨16423, 0, 0⟩, 8231),
       (0, some ⟨16423, 0, 0⟩, 0)] := by decide +kernel

theorem witness_AudioBlockEnd_clock (f : StreamState) (m : ClockMode) :
    let s := attached.onStream .f0 fun x => { x with state := f, mode := m, sounds := [someSound 0] }
    let u := attached.onStream .f0 fun x => { x with state := f, mode := m }
    (s.stream .f0).state = f ∧ (s.stream .f0).mode = m ∧ liveCards (s.stream .f0).sounds ≠ [] ∧
    (u.stream .f0).state = f ∧ liveCards (u.stream .f0).sounds = [] := ⟨rfl, rfl, nofun, rfl, rfl⟩

theorem witness_AudioBlockEnd_assembly :
    let a : Assembly := ⟨[], [], 5, [someSound 5], 0, 0, false⟩
    ({ someSound 5 with good := false }).good = false ∧ (someSound 5).good = true ∧ a.head = 0 ∧
    ((someSound 5).pts - a.clock).toNat = 0 ∧ ((someSound 6).pts - a.clock).toNat = 1 ∧
    2147483648 ≤ ((someSound 4).pts - a.clock).toNat ∧ 100 ≤ (105 - (someSound 5).pts).toNat := by decide

theorem witness_AudioBlockEnd_release :
    (showing .playing attached).film.f0.release.frames.head? = some someCard ∧
    (showing .paused attached).film.f0.state = .paused ∧ (showing .stopped attached).film.f0.state = .stopped ∧
    (let f := { (showing .playing attached).film.f0 with frames := [someCard, { someCard with index := 1 }] }
     f.release.frames = f.frames.drop 1 ∧ f.frames[0]? = some someCard) := by
  decide

theorem witness_AudioFetch :
    (awaiting .audio (.soundSamples .f0 0 2) 8 attached).awaits 7 (readOf .audio (.soundSamples .f0 0 2) 8)
      (.soundSamples .f0 0 2) 8 ∧
    (awaiting .audio (.clipSamples 0 1 0 2) 8 attached).awaits 7 (readOf .audio (.clipSamples 0 1 0 2) 8)
      (.clipSamples 0 1 0 2) 8 ∧
    attached.audio.serial = 0 ∧
    ((attached.onStream .f0 fun f => { f with block := [.silence, .silence, .want, .want] }).stream .f0).block.getD 2
      .silence = .want :=
  ⟨awaiting_awaits _ _ _ _, awaiting_awaits _ _ _ _, rfl, rfl⟩

/-! ### Camera -/

/-- The camera CAPTURING, with an open frame, kept frames and lines. -/
def capturing (o : OpenFrame) (k : List KeptFrame) (b : List BufLine) : State :=
  { attached with capture := { attached.capture with state := .capturing, openFrame := o, frames := k, buffer := b } }

/-- With store addresses, so that the stores are in use. -/
def storing (s : State) : State := { s with capture := { s.capture with
  record := { s.capture.record with stores := some ⟨0x100000, 0x300000, 0x500000⟩ } } }

theorem witness_FrameStartCode :
    (∀ c, (cameraIn c attached).capture.state = c ∧ (cameraIn c attached).locksFront = false) ∧
    ((capturing .none [] []).capture.openFrame = .none ∧
      (capturing .none [] []).capture.decimation = (capturing .none [] []).capture.record.decimation ∧
      (capturing .none [] []).locksFront = false) ∧
    ((storing (cameraIn .armed attached)).capture.frames = [] ∧
      (storing (cameraIn .armed attached)).storesInUse = true) ∧
    (let s := { attached with
        guide := { attached.guide with viewDemand := true }
        capture := { attached.capture with geometry := some caseGeometry } }
     s.capture.geometry = some caseGeometry ∧ s.guide.demand = true) ∧
    (let s := { capturing (.ignored 1) [] [] with capture := { (capturing (.ignored 1) [] []).capture with
        record := { attached.capture.record with decimation := 3 }, decimation := 1 } }
     s.capture.state = .capturing ∧ (∀ id, s.capture.openFrame ≠ .kept id) ∧
      s.capture.decimation ≠ s.capture.record.decimation) :=
  ⟨fun c => ⟨rfl, by cases c <;> decide⟩, ⟨rfl, rfl, by decide⟩, ⟨rfl, rfl⟩, ⟨rfl, rfl⟩, rfl, fun _ => nofun,
    by decide⟩

theorem witness_FrameStartCode_closes :
    (let s := capturing (.kept 0) [someKept] []
     s.capture.state = .capturing ∧ s.capture.openFrame = .kept someKept.id ∧ s.capture.frames = [someKept] ∧
      someKept.toWriter = false ∧ someKept.toFront = false ∧ someKept.faulted = false ∧ s.locksFront = false) ∧
    (cameraIn .stopping attached).capture.state = .stopping ∧
    (∀ id, (cameraIn .stopping attached).capture.openFrame ≠ .kept id) :=
  ⟨⟨rfl, rfl, rfl, rfl, rfl, rfl, by decide⟩, rfl, fun _ => nofun⟩

/-- R61: with an ignored frame open and the factor reached, the next frame is kept. -/
theorem witness_FrameStartCode_ignored :
    let s := capturing (.ignored 1) [] []
    s.capture.state = .capturing ∧ (∀ id, s.capture.openFrame ≠ .kept id) ∧
    s.capture.decimation = s.capture.record.decimation ∧ s.locksFront = false ∧
    (after (.frameStartCode 2) s).capture.openFrame = .kept 0 := ⟨rfl, fun _ => nofun, rfl, by decide, by decide +kernel⟩

theorem witness_LinePacket :
    (let earlier := { someKept with id := 1, closed := true, toWriter := true }
     let f := { someKept with toFront := true, toWriter := true, faulted := true }
     let s := capturing (.kept 0) [earlier, f] []
     s.camPwr = true ∧ s.capture.openFrame = .kept f.id ∧ s.capture.frames = [earlier] ++ [f] ∧
      ∀ x ∈ [earlier], x.id ≠ f.id) ∧
    attached.camPwr = false ∧ (∀ id, (capturing (.ignored 1) [] []).capture.openFrame ≠ .kept id) :=
  ⟨⟨rfl, rfl, rfl, by decide⟩, rfl, fun _ => nofun⟩

/-- A line of the frame, its bytes issued or not. -/
def someLine (issued : Nat) : BufLine := ⟨0, 3, [1, 2, 3, 4], true, false, issued, true⟩

theorem witness_FrameEnds :
    (let s := capturing (.kept 0) [someKept] []
     s.capture.state = .capturing ∧ s.capture.openFrame = .kept someKept.id ∧ s.capture.frames = [someKept] ∧
      someKept.faulted = false ∧ someKept.toWriter = false) ∧
    (let f := { someKept with toWriter := true, target := some 0 }
     let s := capturing (.kept 0) [f] [someLine 0]
     s.capture.openFrame = .kept f.id ∧ s.capture.frames = [f] ∧ f.faulted = false ∧ f.toWriter = true ∧
      f.target ≠ none ∧ ∃ l ∈ s.capture.buffer, l.frame = f.id ∧ l.forWriter = true) ∧
    (∀ id, (capturing (.ignored 1) [] []).capture.openFrame ≠ .kept id) ∧
    (let s := { cameraIn .armed attached with capture := { (cameraIn .armed attached).capture with lossTimer := some 1 } }
     s.capture.lossTimer ≠ none ∧ s.capture.state = .armed) ∧
    attached.capture.lossTimer = none :=
  ⟨⟨rfl, rfl, rfl, rfl, rfl⟩, ⟨rfl, rfl, rfl, rfl, by decide, _, List.mem_singleton.mpr rfl, rfl, rfl⟩,
    fun _ => nofun, ⟨by decide, rfl⟩, rfl⟩

/-- The reverse view in a state, its deadline running since sample 480, at sample 5,000. -/
def viewAt (v : View) (s : State) : State := { s with
  reverse := { s.reverse with view := v, deadline := some 9, assertedAt := 480 }, audio := { s.audio with now := 5000 } }

/-- A frame of FRONT alone, its lines all there. -/
def takenWhole : KeptFrame := { someKept with toFront := true, expected := 720 }

/-- R146, R148, R149: a whole frame shows the picture, from WAKING with the 94 ms since the assertion. -/
theorem witness_FrameEnds_delivered :
    takenWhole.toFront = true ∧ takenWhole.missing + (CameraRecord.reset.height - takenWhole.expected) = 0 ∧
    ((List.map (fun v => (after .frameEndCode (viewAt v (capturing (.kept 0) [takenWhole] []))).reverse)
      [View.waking, .unavailable, .linger]).map fun r => (r.view, r.delivered, r.lastShow, r.deadline)) =
      [(.showing, true, some 94, none), (.showing, true, none, some 9), (.linger, true, none, some 9)] := by
  decide +kernel

/-- R148, R150: a lost camera ends WAKING and SHOWING. -/
theorem witness_FrameEnds_lost :
    ((List.map (fun v => (after .lossTimerExpiry (viewAt v { capturing .none [] [] with
        capture := { (capturing .none [] []).capture with lossTimer := some 1 } })).reverse)
      [View.waking, .showing, .linger]).map fun r => (r.view, r.unavailables, r.deadline)) =
      [(.unavailable, 1, none), (.unavailable, 1, some 9), (.linger, 0, some 9)] := by decide +kernel

/-- R53, R55, R62: a code that closes a frame of FRONT, one of the writer with nothing left to write, and one with a line
left to write. -/
theorem witness_FrameStartCode_closing :
    (let s := capturing (.kept 0) [takenWhole] []
     s.capture.openFrame = .kept takenWhole.id ∧ takenWhole.faulted = false ∧ takenWhole.toWriter = false) ∧
    (let f := { takenWhole with toFront := false, toWriter := true, target := some 2 }
     let s := capturing (.kept 0) [f] []
     f.target = some 2 ∧ (∀ l ∈ s.capture.buffer, l.forWriter = false) ∧ s.arbiter.path = none) ∧
    (let f := { takenWhole with toFront := false, toWriter := true, target := some 2 }
     let s := capturing (.kept 0) [f] [someLine 0]
     let u := { s with capture := { s.capture with nextFrame := 1 } }
     (∃ l ∈ u.capture.buffer, l.frame = f.id ∧ l.forWriter = true) ∧ f.id < u.capture.nextFrame ∧
      ((after (.frameStartCode 4) u).capture.frames.map fun x => (x.id, x.closed, x.target)) =
        [(0, true, some 2), (1, false, none)]) := by decide +kernel

/-- The camera STOPPING with an open kept frame. -/
def stopping (f : KeptFrame) (b : List BufLine) : State := { capturing (.kept f.id) [f] b with
  capture := { (capturing (.kept f.id) [f] b).capture with state := .stopping, lossTimer := some 1 } }

theorem witness_FrameEnds_written :
    let f := { someKept with toWriter := true, target := some 0 }
    let s := capturing (.kept 0) [f] []
    f.toWriter = true ∧ f.target = some 0 ∧ (∀ l ∈ s.capture.buffer, l.forWriter = false) ∧ s.arbiter.path = none := by
  decide

theorem witness_FrameEnds_stopping :
    (let s := stopping someKept []
     s.capture.state = .stopping ∧ s.capture.openFrame = .kept someKept.id ∧ s.capture.frames = [someKept] ∧
      someKept.faulted = false ∧ someKept.toWriter = false ∧ someKept.toFront = false ∧ s.cameraNeeded = false ∧
      s.capture.lossTimer ≠ none) ∧
    (let f := { someKept with toWriter := true, target := some 0 }
     let s := stopping f [someLine 0]
     f.toWriter = true ∧ f.target ≠ none ∧ ∃ l ∈ s.capture.buffer, l.frame = f.id ∧ l.forWriter = true) :=
  ⟨by decide, rfl, by decide, _, List.mem_singleton.mpr rfl, rfl, rfl⟩

/-- R53, R63: frames of FRONT, and of the writer with nothing left to write, closed in STOPPING, the camera needed again
or not. -/
theorem witness_FrameEnds_stopping_needed :
    let again (s : State) : State := { s with capture := { s.capture with askedOn := true } }
    let f := { takenWhole with toWriter := true, target := some 2 }
    ((stopping f []).capture.state = .stopping ∧ (stopping f []).capture.frames = [f] ∧ f.faulted = false ∧
      f.target ≠ none ∧ (∀ l ∈ (stopping f []).capture.buffer, l.forWriter = false) ∧
      (stopping f []).arbiter.path = none) ∧
    takenWhole.toWriter = false ∧ takenWhole.toFront = true ∧ (again (stopping f [])).cameraNeeded = true ∧
    ([stopping f [], again (stopping f []), viewAt .waking (stopping takenWhole [])].map fun s =>
      ((after .frameEndCode s).capture.state, (after .frameEndCode s).reverse.view)) =
        [(.off, .off), (.powering, .off), (.powering, .showing)] ∧
    ((again (stopping f [])).capture.lossTimer ≠ none ∧
      (after .lossTimerExpiry (again (stopping f []))).capture.state = .powering) := by decide +kernel

/-- R55, R69, R70: the close of a frame of the writer whose write has faulted, by either code; nothing is published. -/
theorem witness_FrameEnds_faulted :
    let f := { takenWhole with toFront := false, toWriter := true, target := some 2, faulted := true }
    let ended (c : Instr) (s : State) :=
      ((after c s).capture.whole, (after c s).capture.spoiled, (after c s).capture.published, (after c s).capture.state)
    (let s := capturing (.kept 0) [f] []
     s.capture.openFrame = .kept f.id ∧ s.capture.frames = [f] ∧ f.target = some 2 ∧ s.arbiter.path = none ∧
      ended .frameEndCode s = (0, 1, none, .capturing) ∧ ended (.frameStartCode 4) s = (0, 1, none, .capturing)) ∧
    (let s := stopping f []
     s.capture.state = .stopping ∧ ended .frameEndCode s = (0, 1, none, .off)) := by decide +kernel

/-- R53, R61, R63: states in which a frame end code is discarded. -/
theorem witness_FrameEnds_discarded :
    (cameraIn .armed attached).capture.state ≠ .capturing ∧ (cameraIn .armed attached).capture.state ≠ .stopping ∧
    (cameraIn .stopping attached).capture.state ≠ .capturing ∧
    (∀ id, (cameraIn .stopping attached).capture.openFrame ≠ .kept id) := by
  refine ⟨by decide, by decide, by decide, fun _ => nofun⟩

/-- The camera powering up or being set up, with a script and timers. -/
def settingUp (c : CaptureState) (script : List ScriptStep) (settle step : Option Nat) (i2c : Option (List Byte)) :
    State := { cameraIn c attached with capture := { (cameraIn c attached).capture with
  script := script, settleTimer := settle, stepTimer := step, i2c := i2c } }

theorem witness_SetupScript :
    (let s := settingUp .powering [] (some 1) none none
     s.capture.state = .powering ∧ s.capture.settleTimer ≠ none ∧ s.capture.script = []) ∧
    (let s := settingUp .powering [.wait 5] (some 1) none none
     s.capture.settleTimer ≠ none ∧ s.capture.script ≠ []) ∧
    attached.capture.settleTimer = none ∧
    (let s := settingUp .setup [.wait 5] none (some 1) none
     s.capture.state = .setup ∧ s.capture.stepTimer ≠ none) ∧
    (let s := settingUp .setup [.write 0x30 0x100 [7]] none none (some [0x60, 1, 0, 7])
     s.capture.state = .setup ∧ s.capture.i2c ≠ none ∧ s.capture.dropWaits = false) ∧
    attached.capture.i2c = none := by decide

theorem witness_SetupScript_dropped :
    (∀ need, let s := settingUp .setup [.write 0x30 0x100 [7]] none none (some [0x60, 1, 0, 7])
     let u := { s with capture := { s.capture with dropWaits := true, askedOn := need } }
     u.capture.state = .setup ∧ u.capture.i2c ≠ none ∧ u.capture.dropWaits = true ∧ u.cameraNeeded = need) := by decide

/-- CAMERA_ON asked before, in a camera state. -/
def neededIn (c : CaptureState) : State :=
  { cameraIn c attached with capture := { (cameraIn c attached).capture with askedOn := true } }

theorem neededIn_mayTake (c : CaptureState) : (neededIn c).mayTake cameraSlot 1 :=
  ⟨rfl, rfl, (by decide : (1 : Word) ≠ 0), fun _ => rfl, nofun⟩

theorem witness_CameraOnAndOff :
    (attached.mayTake cameraSlot 1 ∧ attached.cameraNeeded = false ∧ attached.port.quiet = false ∧
      attached.capture.state = .off) ∧
    ((neededIn .armed).mayTake cameraSlot 1 ∧ (neededIn .armed).cameraNeeded = true ∧
      (neededIn .armed).capture.hold = false ∧ (neededIn .armed).reverse.view ≠ .linger ∧ (neededIn .armed).shaped ∧
      (neededIn .armed).capture.state = .armed) ∧
    ((neededIn .capturing).cameraNeeded = true ∧ (neededIn .capturing).capture.frames = []) ∧
    noParams sixZeros ∧ ¬noParams oneParam :=
  ⟨⟨attached_mayTake 2 (by decide), rfl, rfl, rfl⟩,
    ⟨neededIn_mayTake _, rfl, rfl, by decide, ⟨rfl, rfl, rfl, by intro d; cases d <;> rfl, rfl⟩, rfl⟩, ⟨rfl, rfl⟩,
    sixZeros_noParams, oneParam_not_noParams⟩

/-- CAMERA_ON asked before, with frames and an I2C transaction. -/
def needing (c : CaptureState) (o : OpenFrame) (k : List KeptFrame) (i2c : Option (List Byte)) : State :=
  { neededIn c with capture := { (neededIn c).capture with openFrame := o, frames := k, i2c := i2c } }

theorem witness_CameraOnAndOff_drops :
    (∀ c o k i, (needing c o k i).mayTake cameraSlot 1 ∧ (needing c o k i).shaped ∧
      (needing c o k i).capture.hold = false ∧ (needing c o k i).cameraNeeded = true ∧
      (needing c o k i).capture.state = c ∧ (needing c o k i).capture.frames = k ∧ (needing c o k i).capture.i2c = i ∧
      (needing c o k i).reverse.view ≠ .linger) ∧
    (needing .capturing (.kept 0) [someKept] none).capture.openKept = true ∧
    (needing .capturing (.ignored 1) [someKept] none).capture.openKept = false ∧ [someKept] ≠ [] ∧
    some [(0x60 : Byte)] ≠ none :=
  ⟨fun c _ _ _ => ⟨neededIn_mayTake c, ⟨rfl, rfl, rfl, by intro d; cases d <;> rfl, rfl⟩, rfl, rfl, rfl, rfl, rfl,
    (by decide : View.off ≠ .linger)⟩, rfl, rfl, nofun, nofun⟩

theorem witness_CameraOnAndOff_rises :
    (let s := stopping someKept []
     s.mayTake cameraSlot 1 ∧ s.cameraNeeded = false ∧ s.port.quiet = false ∧ s.capture.state = .stopping ∧
      s.capture.openKept = true) ∧
    (let s := { stopping someKept [] with capture := { (stopping someKept []).capture with openFrame := .none } }
     s.mayTake cameraSlot 1 ∧ s.cameraNeeded = false ∧ s.capture.state = .stopping ∧ s.capture.openKept = false) :=
  ⟨⟨⟨rfl, rfl, (by decide : (1 : Word) ≠ 0), fun _ => rfl, nofun⟩, rfl, rfl, rfl, rfl⟩,
    ⟨⟨rfl, rfl, (by decide : (1 : Word) ≠ 0), fun _ => rfl, nofun⟩, rfl, rfl, rfl⟩⟩

theorem witness_CameraOnAndOff_linger (c : CaptureState) (k : List KeptFrame) (need : Bool) :
    let s := { needing c .none k none with
      capture := { (needing c .none k none).capture with askedOn := need, hold := need }
      reverse := { attached.reverse with view := .linger, lingerTimer := some 9 } }
    s.mayTake cameraSlot 1 ∧ s.shaped ∧ s.reverse.view = .linger ∧ s.cameraNeeded = need ∧ s.capture.state = c ∧
      s.capture.frames = k :=
  ⟨⟨rfl, rfl, (by decide : (1 : Word) ≠ 0), fun _ => rfl, nofun⟩, ⟨rfl, rfl, rfl, by intro d; cases d <;> rfl, rfl⟩, rfl,
    by cases need <;> rfl, rfl, rfl⟩

/-- R63: the need risen again after the close, and dropped by CAMERA_OFF. -/
theorem witness_CameraOnAndOff_stopping :
    let s := needing .stopping .none [{ someKept with closed := true, toWriter := true, target := some 0 }] none
    s.mayTake cameraSlot 1 ∧ s.reverse.view ≠ .linger ∧ s.capture.hold = false ∧ s.cameraNeeded = true ∧
    s.capture.state = .stopping ∧ (after (.cameraOff 1 sixZeros) s).capture.state = .stopping ∧
    (after (.cameraOff 1 sixZeros) s).cameraNeeded = false :=
  ⟨neededIn_mayTake .stopping, by decide, rfl, rfl, rfl, by decide +kernel, by decide +kernel⟩

/-- A CAMERA_LOAD in reading, with only its geometry still to come. -/
def loading (camera : Option (List Byte)) (whole : Bool) (c : CaptureState) : State :=
  awaiting .poller (.geometryRecord 1) 52 { (cameraIn c attached).onSlot cameraSlot (fun x => { x with reading := some 4 })
    with capture := { (cameraIn c attached).capture with load := some ⟨camera, none, [0], whole⟩, loadSerial := 1 } }

/-- The geometry record of 4.6. -/
def geometryBytes : List Byte :=
  halfBytes 2700 ++ halfBytes 1000 ++ halfBytes 1600 ++ halfBytes 1024 ++ halfBytes 500 ++ halfBytes 1000 ++
  halfBytes 2000 ++ halfBytes 3000 ++
  ([600, 640, 640000, 0, 200, 700000, 0, 1, 1000] : List Nat).flatMap fun n => wordBytes (wordOfNat (n * 65536))

theorem witness_CameraLoadRead :
    (∀ x w c, ((loading x w c).slot cameraSlot).reading = some 4 ∧
      (loading x w c).capture.load = some ⟨x, none, [0], w⟩ ∧
      (loading x w c).awaits 7 (readOf .poller (.geometryRecord 1) 52) (.geometryRecord (loading x w c).capture.loadSerial)
        52 ∧ (loading x w c).capture.state = c ∧ (loading x w c).shaped ∧
      (loading x w c).arbiter.consecutive.get .poller < 15) ∧
    geometryBytes.length = 52 ∧ geometryValid (geometryOf geometryBytes) = true ∧
    geometryValid (geometryOf (List.replicate 52 0)) = false ∧
    cameraRecordValid attached.port.base ⟨0, 0, 1280, 720⟩ CameraRecord.reset.bytes = true ∧
    cameraRecordValid attached.port.base ⟨0, 0, 1280, 720⟩ (List.replicate 48 0) = false ∧
    readScript 64 [0] = .steps [] ∧ ∀ l, readScript 64 [3] ≠ .steps l :=
  ⟨fun _ _ _ => ⟨rfl, rfl, ⟨rfl, rfl, rfl⟩, rfl, ⟨rfl, rfl, rfl, by intro d; cases d <;> rfl, rfl⟩,
      (by decide : (0 : Nat) < 15)⟩,
    by decide, by decide +kernel, by decide +kernel, by decide +kernel, by decide +kernel, by decide, fun _ => nofun⟩

/-- A CAMERA_LOAD in reading in OFF, with its camera record or a part of its script still to come. -/
def loadingPart (what : ReadOf) (n : Nat) (l : CameraLoad) : State :=
  awaiting .poller what n { attached.onSlot cameraSlot (fun x => { x with reading := some 4 })
    with capture := { attached.capture with load := some l, loadSerial := 1 } }

theorem witness_CameraLoadRead_parts :
    (∀ what n l, (loadingPart what n l).awaits 7 (readOf .poller what n) what n ∧
      ((loadingPart what n l).slot cameraSlot).reading = some 4 ∧ (loadingPart what n l).capture.load = some l ∧
      (loadingPart what n l).capture.loadSerial = 1 ∧ (loadingPart what n l).capture.state = .off) ∧
    scriptEnds 257 (List.replicate 256 0) = true ∧ scriptEnds 257 (List.replicate 256 2) = false ∧ 6 < 7 ∧ 7 ≤ 7 ∧
    (∃ l, readScript 64 (List.replicate 256 0) = .steps l) :=
  ⟨fun _ _ _ => ⟨awaiting_awaits _ _ _ _, rfl, rfl, rfl, rfl⟩, by decide +kernel, by decide +kernel, by decide,
    by decide, _, rfl⟩

/-- A store write of the frame's line on its way. -/
def storeWrite : Issued := ⟨7, ⟨.storeWriter, 0x100000, .store 0 3 [1, 2, 3, 4]⟩, true, 0⟩

theorem witness_WritesSent :
    (messaging (some someWrite)).arbiter.path = some someWrite ∧ someWrite.request.work = .status 0x8000 [1] ∧
    (messaging (some storeWrite)).arbiter.path = some storeWrite ∧
    storeWrite.request.work = .store 0 3 [1, 2, 3, 4] ∧ [(1 : Byte), 2, 3, 4].length ≤ 256 ∧
    (let f := { someKept with toWriter := true, target := some 0, closed := true }
     let s := capturing .none [f] [someLine 4]
     s.capture.frames = [f] ∧ s.capture.buffer = [someLine 4] ∧ f.id = 0 ∧ (someLine 4).frame = 0 ∧
      (someLine 4).row = 3 ∧ (someLine 4).forFront = false ∧
      (storedBytes f.record.wide (someLine 4).payload).length ≤ (someLine 4).issued ∧ f.toWriter = true ∧
      f.target = some 0 ∧ f.closed = true ∧ f.spoiled = false ∧ f.faulted = false ∧
      s.capture.state = .capturing) ∧
    attached.arbiter.path = none ∧ (readOf .poller .vehicle 16).request.work = .read .vehicle 16 := by decide

theorem witness_WritesSent_stopping :
    let s := { stopping { someKept with toWriter := true, target := some 0, closed := true } [someLine 4] with
      arbiter := { attached.arbiter with path := some storeWrite } }
    s.capture.state = .stopping ∧ s.cameraNeeded = false ∧ s.reverse.view = .off ∧
    s.arbiter.path = some storeWrite := by decide

theorem witness_WritesSent_needed :
    let s := { stopping { someKept with toWriter := true, target := some 0, closed := true } [someLine 4] with
      arbiter := { attached.arbiter with path := some storeWrite } }
    let u := { s with capture := { s.capture with askedOn := true } }
    u.capture.state = .stopping ∧ u.cameraNeeded = true ∧ u.arbiter.path = some storeWrite := by decide

/-- R69, R70: the last write of a closed frame that is spoiled, by its verdict or by a fault. -/
theorem witness_WritesSent_spoiled :
    let f (verdict fault : Bool) :=
      { someKept with toWriter := true, target := some 0, closed := true, spoiled := verdict, faulted := fault }
    ([(true, false), (false, true)].map fun x =>
      let s := { capturing .none [f x.1 x.2] [someLine 4] with arbiter := { attached.arbiter with path := some storeWrite } }
      ((after .storeWriteDone s).capture.spoiled, (after .storeWriteDone s).capture.published)) =
        [(1, none), (1, none)] ∧
    (let s := { stopping (f true false) [someLine 4] with arbiter := { attached.arbiter with path := some storeWrite } }
     s.arbiter.path = some storeWrite ∧ (after .storeWriteDone s).capture.state = .off) := by decide +kernel

/-! ### The guide line engine, the mixer and the chime engine -/

/-- The guide line engine with a reference and a freshness. -/
def sensing (r : Option Word) (f : Freshness) : State :=
  { attached with guide := { attached.guide with reference := r, freshness := f } }

theorem witness_GuideEngine :
    (∀ r f, (awaiting .poller .vehicle 16 (sensing r f)).awaits 7 (readOf .poller .vehicle 16) .vehicle 16 ∧
      (sensing r f).guide.reference = r ∧ (sensing r f).guide.freshness = f) ∧
    (List.replicate 16 (0 : Byte)).length = 16 ∧ wordAt (List.replicate 16 0) 0 = 0 ∧ (5 : Word) ≠ 0 ∧
    (let s := { attached with chime := { attached.chime with
        waiting := [{ someChime 0 1 0 with source := .sensingUnavailable }] } }
     s.chime.waits .sensingUnavailable = true) ∧
    attached.chime.waits .sensingUnavailable = false ∧ attached.chime.plays .sensingUnavailable = false ∧
    (let x : GuideInputs := ⟨.live, 900, none, caseGeometry, 1280, 720, ⟨0, 0, 1280, 600⟩⟩
     ({ attached with guide := { attached.guide with inFlight := some x } }).guide.inFlight = some x) ∧
    attached.guide.inFlight = none :=
  ⟨fun _ _ => ⟨⟨rfl, rfl, rfl⟩, rfl, rfl⟩, by decide, by decide, by decide, by decide, by decide, by decide, rfl, rfl⟩

/-- A routing record with every route and master at 0 dB, or with a bad first route. -/
def routingBytes (first : Byte) : List Byte := [first, 0, 1, 0, 1, 0, 1, 0, 1, 0, 1, 0, 0, 0, 0, 36]

/-- The mixer with a last copy, and route F0 to CABIN with a pending change. -/
def routed (copy : Option (Routing × Bool)) (p : Option PendingChange) : State :=
  { attached with mixer := { attached.mixer with lastCopy := copy } }.onRoute ⟨.f0, .cabin⟩ fun x => { x with pending := p }

theorem witness_RoutingRead :
    (∀ c p, (awaiting .poller .routing 16 (routed c p)).awaits 7 (readOf .poller .routing 16) .routing 16 ∧
      (routed c p).mixer.lastCopy = c ∧ ((routed c p).route ⟨.f0, .cabin⟩).pending = p) ∧
    (routingBytes 1).length = 16 ∧ routingFaultOf (routingOf (routingBytes 1)) = 0 ∧
    routingFaultOf (routingOf (routingBytes 2)) ≠ 0 ∧
    attached.mixer.taken.duck = (routingOf (routingBytes 1)).duck ∧
    hostLevel (routingOf (routingBytes 1)) ⟨.f0, .cabin⟩ ≠ hostLevel attached.mixer.taken ⟨.f0, .cabin⟩ ∧
    (let s := awaiting .poller .mixerSet 16 (attached.onSlot mixerSlot fun x => { x with reading := some 4 })
     s.awaits 7 (readOf .poller .mixerSet 16) .mixerSet 16 ∧ (s.slot mixerSlot).reading = some 4 ∧ s.shaped) :=
  ⟨fun _ _ => ⟨⟨rfl, rfl, rfl⟩, rfl, rfl⟩, by decide, by decide, by decide, by decide, by decide,
    ⟨rfl, rfl, rfl⟩, rfl, ⟨rfl, rfl, rfl, by intro d; cases d <;> rfl, rfl⟩⟩

theorem witness_RoutingRead_fault :
    let s := awaiting .poller .mixerSet 16 (attached.onSlot mixerSlot fun x => { x with reading := some 4 })
    s.arbiter.consecutive.get .poller < 15 ∧
    (after (.mixerSetReadDone 7 .error) s).slot mixerSlot = ⟨0, none, 0, .empty, 0⟩ := by decide +kernel

theorem witness_RoutingRead_depth :
    attached.mixer.taken.duck ≠ (routingOf (List.replicate 16 0)).duck ∧
    routingFaultOf (routingOf (List.replicate 16 0)) = 0 ∧
    (∀ r, (attached.route r).pending = none) ∧ attached.mixer.duckApplied = false ∧
    (let s := { attached with mixer := { attached.mixer with duckApplied := true } }
     s.mixer.duckApplied = true ∧ ∀ r, (s.route r).pending = none) ∧
    hostLevel (routingOf (List.replicate 16 0)) ⟨.f0, .cabin⟩ = (attached.route ⟨.f0, .cabin⟩).level :=
  ⟨by decide, by decide, fun ⟨a, b⟩ => by cases a <;> cases b <;> rfl, rfl,
    ⟨rfl, fun ⟨a, b⟩ => by cases a <;> cases b <;> rfl⟩, by decide⟩

/-- R105 to R107: a pending change that holds a duck depth, and a record that changes the depth, for a route that is
ducked and one that is not. -/
theorem witness_RoutingRead_waits :
    let p : PendingChange := ⟨some 24, some 10, 5⟩
    let s (ducked : Bool) : State := { routed none (some p) with
      mixer := { (routed none (some p)).mixer with duckApplied := ducked } }
    (∀ b, ((s b).route ⟨.f0, .cabin⟩).pending = some p ∧ (s b).mixer.duckApplied = b) ∧
    attached.mixer.taken.duck ≠ (routingOf (List.replicate 16 0)).duck ∧
    attached.mixer.taken.duck = (routingOf (routingBytes 1)).duck ∧
    routingFaultOf (routingOf (List.replicate 16 0)) = 0 ∧ routingFaultOf (routingOf (routingBytes 1)) = 0 := by
  decide

theorem witness_RoutesAndZones :
    ((routed none (some ⟨some 24, none, 5⟩)).route ⟨.f0, .cabin⟩).pending = some ⟨some 24, none, 5⟩ ∧
    (attached.route ⟨.f1, .phonesR⟩).pending = none ∧ (attached.route ⟨.f1, .phonesR⟩).ramp = none ∧
    (let s := attached.onRoute ⟨.f1, .phonesR⟩ fun x => { x with ramp := some ⟨16423, 2068, 99⟩ }
     (s.route ⟨.f1, .phonesR⟩).ramp = some ⟨16423, 2068, 99⟩) ∧ 256 ≤ 256 ∧
    (∀ z, attached.mixer.clipMark.get z = false) ∧
    (∀ z, ({ attached with mixer := { attached.mixer with clipMark := ⟨true, true, true⟩ } }).mixer.clipMark.get z =
      true) :=
  ⟨rfl, rfl, rfl, rfl, by decide, fun z => by cases z <;> rfl, fun z => by cases z <;> rfl⟩

theorem witness_RoutesAndZones_sample :
    (∀ r, (attached.route r).pending = none) ∧
    (let f := (attached.onStream .f0 fun f => { f with block := [.silence, .got 1 2] }).stream .f0
     f.block.getD 1 .silence = .got 1 2 ∧ ∀ l r, f.block.getD 0 .silence ≠ .got l r) :=
  ⟨fun ⟨a, b⟩ => by cases a <;> cases b <;> rfl, rfl, fun _ _ => nofun⟩

/-- R42, R135: a sample of F0 and one of the clip that have not come, and each once more in a block that has its miss. -/
theorem witness_RoutesAndZones_misses :
    let s (missed : Bool) : State := { soundAndClip with
      film := soundAndClip.film.update .f0 fun f => { f with block := [.want], blockMissed := missed }
      chime := { soundAndClip.chime with clipMissed := missed } }
    let got : ClipSample := ⟨1, 0, 90, 5⟩
    (∀ b, (s b).port.attached = true ∧ (s b).audio.position = 0 ∧ (s b).chime.clipEnded ≠ some 1 ∧
      ((s b).stream .f0).block.getD 0 .silence = .want) ∧
    [s false, s true, { s false with chime := { (s false).chime with clipGot := [got] } },
      { s false with chime := { (s false).chime with clipEnded := some 1 } }].map (fun u =>
        ((tick u).film.f0.misses, (tick u).film.f0.blockMissed, (tick u).chime.clipMisses)) =
      [(1, true, 1), (0, true, 0), (1, true, 0), (1, true, 0)] := by
  refine ⟨fun b => by cases b <;> decide, by decide +kernel⟩

theorem witness_RoutesAndZones_pending :
    let r : Route := ⟨.f0, .cabin⟩
    let s (wait : Nat) (b : Place) : State :=
      (routed none (some ⟨some 24, none, wait⟩)).onStream .f0 fun f => { f with block := [b] }
    ((s 5 .silence).route r).pending = some ⟨some 24, none, 5⟩ ∧
    (((s 5 .silence).stream .f0).sampleAt (s 5 .silence).audio.position).left = 0 ∧
    (((s 5 (.got 1 2)).stream .f0).sampleAt (s 5 (.got 1 2)).audio.position).left = 256 ∧
    ((s 5 (.got 1 2)).mixer.lastLeft.get .f0) = 0 ∧ ¬5 ≤ 1 ∧ ((s 1 (.got 1 2)).route r).pending = some ⟨some 24, none, 1⟩ :=
  by decide

/-- A tray half read, with the other half as given. -/
def trayRead (upper : Bool) (low : Option (List Byte)) (fault : Bool) : State :=
  awaiting .poller (.tray upper) 256 { attached with poller := { attached.poller with trayLow := low, trayFault := fault } }

theorem witness_TrayRead :
    (∀ l f, (trayRead true l f).awaits 7 (readOf .poller (.tray true) 256) (.tray true) 256 ∧
      (trayRead true l f).poller.trayLow = l ∧ (trayRead true l f).poller.trayFault = f) ∧
    ((trayRead false none false).awaits 7 (readOf .poller (.tray false) 256) (.tray false) 256 ∧
      (trayRead false none false).poller.trayHigh = none) ∧
    attached.shaped ∧ (attached.card 7).lastTaken = none ∧
    ((writeCard 7 (fun x => { x with lastTaken := some 5 }) attached).card 7).lastTaken = some tone.sequence ∧
    ((writeCard 7 (fun x => { x with lastTaken := some 4 }) attached).card 7).lastTaken = some 4 ∧
    (4 : Word) ≠ tone.sequence ∧ tone.ask = 1 ∧
    (writeCard 7 (fun x => { x with lastTaken := some 4 }) attached).port.attached = true :=
  ⟨fun _ _ => ⟨⟨rfl, rfl, rfl⟩, rfl, rfl⟩, ⟨⟨rfl, rfl, rfl⟩, rfl⟩, attached_shaped, rfl, by decide, by decide,
    by decide, rfl, rfl⟩

theorem witness_TrayRead_orders :
    (let s := { trayRead true none false with poller := { (trayRead true none false).poller with trayHigh := some [] } }
     s.poller.trayHigh = some [] ∧ s.poller.trayLow = none) ∧
    (trayRead true none true).poller.trayFault = true ∧
    (trayRead true (some []) false).arbiter.consecutive.get (readOf .poller (.tray true) 256).request.client < 15 ∧
    attached.outstandingAt 7 = none ∧ ({ tone with ask := 2 }).ask = 2 ∧
    (({ tone with ask := 0 }).ask ≠ 1 ∧ ({ tone with ask := 0 }).ask ≠ 2) ∧
    attached.chime.proximity.active = false := by decide

/-- A chime of a card on the main voice. -/
def someVoice (n cls : Nat) (mark : EndMark) : VoiceChime :=
  { chime := someChime n cls 0, owned := true, mark := mark, position := 10, phase := 0, ended := false }

/-- The main voice and the waiting list as given. -/
def playing (v : MainVoice) (w : List Chime) : State :=
  { attached with chime := { attached.chime with voice := v, waiting := w } }

theorem witness_ChimeAsks :
    (attached.shaped ∧ attached.port.attached = true ∧ attached.chime.proximity.active = false ∧
      attached.chime.playsCard 7 = false ∧ attached.chime.waits (.card 7) = false) ∧
    playRefused tone = false ∧ playRefused { tone with frequency := 19 } = true ∧
    (playing .idle [someChime 7 1 0]).chime.waits (.card 7) = true ∧
    ((playing (.sounding (someVoice 7 2 .none)) []).chime.voice = .sounding (someVoice 7 2 .none) ∧
      (someVoice 7 2 .none).chime.source = .card 7 ∧ (someVoice 7 2 .none).owned = true ∧
      (someVoice 7 2 .none).mark = .none ∧
      (playing (.sounding (someVoice 7 2 .none)) []).chime.waits (.card 7) = false) ∧
    State.reset.port.attached = false :=
  ⟨⟨attached_shaped, rfl, rfl, by decide, by decide⟩, by decide, by decide, by decide,
    ⟨rfl, rfl, rfl, rfl, by decide⟩, rfl⟩

/-- The proximity voice active, with a waiting list. -/
def proximate (w : List Chime) : State := { playing .idle w with chime := { (playing .idle w).chime with
  proximity := { attached.chime.proximity with active := true } } }

theorem witness_ChimeAsks_suppressed :
    (proximate []).port.attached = true ∧ (proximate []).chime.proximity.active = true ∧
    (proximate []).chime.waiting = [] ∧
    playRefused { tone with cls := 0 } = false ∧ (proximate []).shaped :=
  ⟨rfl, rfl, rfl, by decide, rfl, rfl, rfl, by intro d; cases d <;> rfl, rfl⟩

theorem witness_ChimeAsks_proximity :
    (∀ w, (proximate w).port.attached = true ∧ (proximate w).chime.proximity.active = true ∧ (proximate w).shaped ∧
      (proximate w).chime.waiting = w ∧ (proximate w).chime.playsCard 7 = false) ∧
    (proximate [someChime 7 2 1, someChime 2 0 3]).chime.waits (.card 7) = true ∧
    (proximate [someChime 2 0 3]).chime.waits (.card 7) = false ∧
    ([someChime 2 0 3].takeWhile fun x => x.cls == 0) = [someChime 2 0 3] ∧ (someChime 2 0 3).source = .card 2 :=
  ⟨fun _ => ⟨rfl, rfl, ⟨rfl, rfl, rfl, by intro d; cases d <;> rfl, rfl⟩, rfl, rfl⟩, by decide, by decide, by decide, rfl⟩

theorem witness_ChimeAsks_ranges :
    playRefused { tone with frequency := 200, onTime := 20, offTime := 2000 } = false ∧
    playRefused { tone with frequency := 199 } = true ∧ playRefused { tone with onTime := 19 } = true ∧
    playRefused { tone with source := 1, clipAddress := 2, clipCount := 96000 } = false ∧
    playRefused { tone with source := 1, clipAddress := 1, clipCount := 1 } = true ∧
    playRefused { tone with level := 255 } = false ∧ playRefused { tone with level := 161 } = true := by decide

theorem witness_MainVoice :
    (∀ v w, (playing (.sounding v) w).chime.voice = .sounding v ∧ (playing (.sounding v) w).chime.waiting = w ∧
      (playing (.sounding v) w).chime.proximity.active = false ∧ (playing (.sounding v) w).shaped) ∧
    (let v := someVoice 7 1 .none
     v.chime.repeats ≠ 255 ∧ v.chime.repeats ≤ v.chime.done + 1 ∧ v.chime.source = .card 7 ∧ v.owned = true) ∧
    (let v := { someVoice 7 1 .none with chime := { someChime 7 1 0 with repeats := 255 } }
     v.chime.repeats = 255 ∧ v.mark = .none ∧ v.chime.cls < (someChime 2 3 1).cls ∧
      ∀ x, [someChime 2 1 1].head? = some x → x.cls ≤ v.chime.cls) ∧
    ((playing (.releasing (someVoice 7 1 .stopped) 240) []).chime.voice = .releasing (someVoice 7 1 .stopped) 240 ∧
      (someVoice 7 1 .stopped).mark = .stopped ∧ (someVoice 7 1 .silent).mark ≠ .stopped) ∧
    attached.chime.voice = .idle := by
  refine ⟨fun _ _ => ⟨rfl, rfl, rfl, rfl, rfl, rfl, by intro d; cases d <;> rfl, rfl⟩, by decide,
    ⟨rfl, rfl, by decide, fun x h => ?_⟩, ⟨rfl, rfl, by decide⟩, rfl⟩
  rw [← Option.some.inj h]; decide

theorem witness_MainVoice_repetitions :
    (let v := { someVoice 7 1 .forgotten with owned := false }
     v.ended = false ∧ v.chime.repeats ≠ 255 ∧ v.chime.repeats ≤ v.chime.done + 1 ∧ v.mark = .forgotten ∧
      v.owned = false) ∧
    (let s := playing (.sounding (someVoice 7 1 .none)) [someChime 2 3 1]
     s.chime.waiting = someChime 2 3 1 :: [] ∧ (someVoice 7 1 .none).mark ≠ .forgotten ∧
      (someVoice 7 1 .none).chime.cls < (someChime 2 3 1).cls) ∧
    (let v := { someVoice 7 1 .stopped with chime := { someChime 7 1 0 with repeats := 2 } }
     v.chime.done + 1 < v.chime.repeats ∧ v.mark ≠ .none) ∧
    (let s := { playing (.releasing (someVoice 7 1 .silent) 240) [] with chime :=
        { (playing (.releasing (someVoice 7 1 .silent) 240) []).chime with proximity := (proximate []).chime.proximity } }
     s.chime.voice = .releasing (someVoice 7 1 .silent) 240 ∧ s.chime.waiting = [] ∧
      s.chime.proximity.active = true) := by
  decide

/-- R141, R131 (log 52): the last repetition of a chime of a forgotten tray is counted, and nothing finishes. -/
theorem test_forgotten_chime_counts_its_last_repetition :
    let t := after .repetitionEnd (playing (.sounding { someVoice 7 1 .forgotten with owned := false }) [])
    t.chime.voice = .sounding { someVoice 7 1 .forgotten with
      owned := false, ended := true, chime := { someChime 7 1 0 with done := 1 } } ∧ t.chime.finished = 0 := by
  decide +kernel

/-- R127: the clip of a chime whose card's answer has ended is not read again when the card's next PLAY makes it WAITING. -/
theorem test_ended_clip_stays_unread :
    let t := after (.chimePlay 7 { tone with sequence := 9 }) (after (.chimePlay 7 { tone with level := 161 }) soundAndClip)
    (t.card 7).state = .waiting ∧ t.chime.clipEnded = some 1 ∧
    (after .audioBlockEnd t).chime.voice.chime.map (fun v => v.read (after .audioBlockEnd t)) = some false := by
  decide +kernel

theorem witness_MainVoice_boundary :
    (playing .idle [someChime 2 3 1]).chime.waiting = someChime 2 3 1 :: [] ∧ (someChime 2 3 1).source = .card 2 ∧
    (someChime 2 3 1).cls = 3 ∧ (someVoice 7 2 .none).chime.cls < 3 ∧ (someVoice 7 2 .stopped).mark = .stopped ∧
    (someVoice 7 3 .none).chime.cls = 3 ∧ (∀ x, [someChime 2 2 1].head? = some x → x.cls < 3) ∧
    (playing (.releasing (someVoice 7 1 .stopped) 3) []).chime.voice = .releasing (someVoice 7 1 .stopped) 3 := by
  refine ⟨rfl, rfl, rfl, by decide, rfl, rfl, fun x h => ?_, rfl⟩
  rw [← Option.some.inj h]; decide

/-- R140: with the proximity voice active the head starts and the COURTESY chimes behind it are suppressed: at the end of a
repetition, at a return (the chime returned among them), at the end of a release and at a boundary. -/
theorem witness_MainVoice_proximity :
    let near (v : MainVoice) (w : List Chime) : State :=
      { proximate w with chime := { (proximate w).chime with voice := v } }
    let courtesy := { someVoice 7 0 .none with chime := { someChime 7 0 0 with repeats := 2 } }
    let w := [someChime 2 3 1, someChime 3 0 2]
    (∀ v l, (near v l).shaped ∧ (near v l).chime.proximity.active = true ∧ (near v l).chime.voice = v ∧
      (near v l).chime.waiting = l) ∧
    (courtesy.chime.done + 1 < courtesy.chime.repeats ∧ courtesy.mark = .none ∧ courtesy.chime.cls < 3) ∧
    ([after .repetitionEnd (near (.sounding (someVoice 7 1 .none)) w), after .repetitionEnd (near (.sounding courtesy) w),
      after .releaseEnd (near (.releasing (someVoice 7 1 .silent) 240) w), after .audioBlockEnd (near .idle w),
      after .audioBlockEnd (near (.sounding courtesy) w)].map fun t =>
        (t.chime.waiting, t.chime.suppressed, (t.card 2).state, (t.card 3).state, (t.card 7).state)) =
      [([], 1, .playing, .suppressed, .finished), ([], 2, .playing, .suppressed, .suppressed),
       ([], 1, .playing, .suppressed, .none), ([], 1, .playing, .suppressed, .none),
       ([], 2, .playing, .suppressed, .suppressed)] := by
  refine ⟨fun _ _ => ⟨⟨rfl, rfl, rfl, by intro d; cases d <;> rfl, rfl⟩, rfl, rfl, rfl⟩, by decide, by decide +kernel⟩

/-- The proximity voice in a state, with a distance. -/
def beeping (p : ProximityState) (d : Nat) (c : Bool) : State :=
  attached.onProximity fun x => { x with state := p, active := true, nearest := some d, continuous := c }

theorem witness_ProximityVoice :
    (∀ p d c, (beeping p d c).chime.proximity.state = p ∧ (beeping p d c).chime.proximity.nearest = some d ∧
      (beeping p d c).chime.proximity.continuous = c) ∧ 300 < 301 ∧ 300 ≤ 300 :=
  ⟨fun _ _ _ => ⟨rfl, rfl, rfl⟩, by decide, by decide⟩

/-- Sample 100 of a beep is that of 6.5.1; the last sample of a release is 0 (log 58). -/
theorem witness_ProximityVoice_samples :
    let p := State.reset.chime.proximity
    proximityContribution { p with state := .beep, beepSamples := 99, phase := 99 * 1365 } = [⟨true, ⟨630457, 0, 0⟩⟩] ∧
    proximityContribution { p with state := .gap } = [] ∧ 48 * p.offTime ≤ p.position + 1 ∧
    proximityContribution { p with state := .releasing, position := 239, beepSamples := 300, phase := 16384 } =
      [⟨true, ⟨0, 0, 0⟩⟩] := by
  decide +kernel

/-- The proximity voice as an evaluation finds it. -/
def reporting (p : ProximityState) (active shown fresh : Bool) (d : Option Nat) : State :=
  attached.onProximity fun x => { x with state := p, active := active, showing := shown, fresh := fresh, nearest := d }

theorem witness_ProximityVoice_evaluation :
    (∀ p a, let q := (reporting p a true true (some 1499)).chime.proximity
      (q.showing = true ∧ q.fresh = true ∧ ∃ d, q.nearest = some d ∧ d < 1500) ∧ q.active = a ∧ q.state = p) ∧
    (∀ p a, let q := (reporting p a true true (some 1500)).chime.proximity
      ¬(q.showing = true ∧ q.fresh = true ∧ ∃ d, q.nearest = some d ∧ d < 1500) ∧ q.active = a ∧ q.state = p) ∧
    (awaiting .poller .vehicle 16 (sensing (some 1) .held)).awaits 7 (readOf .poller .vehicle 16) .vehicle 16 ∧
    (1 : Word) ≠ wordAt (List.replicate 16 0) 0 :=
  ⟨fun _ _ => ⟨⟨rfl, rfl, _, rfl, by decide⟩, rfl, rfl⟩,
    fun _ _ => ⟨fun h => by obtain ⟨-, -, d, e, l⟩ := h; rw [← Option.some.inj e] at l; exact absurd l (by decide),
      rfl, rfl⟩,
    ⟨rfl, rfl, rfl⟩, by decide⟩

/-! ### The reverse view controller, DIRECT mode and the arbiter -/

/-- The reverse view controller in a view, with a raw level, a debounce timer and the delivery mark. -/
def viewing (v : View) (raw : Bool) (debounce : Option Nat) (delivered : Bool) : State :=
  { attached with reverse := { attached.reverse with
    view := v, raw := raw, debounce := debounce, delivered := delivered } }

theorem witness_ReverseIn :
    (∀ v r b d, (viewing v r b d).reverse.view = v ∧ (viewing v r b d).reverse.raw = r ∧
      (viewing v r b d).reverse.debounce = b ∧ (viewing v r b d).reverse.delivered = d ∧
      (viewing v r b d).capture.state = .off ∧ (viewing v r b d).cameraNeeded = false) ∧
    attached.capture.record.linger ≠ 0 ∧
    ({ attached.capture with record := { attached.capture.record with linger := 0 } }).record.linger = 0 :=
  ⟨fun _ _ _ _ => ⟨rfl, rfl, rfl, rfl, rfl, rfl⟩, by decide, rfl⟩

theorem witness_ViewTimers :
    (let s := { attached with reverse := { attached.reverse with view := .waking, deadline := some 1 } }
     s.reverse.view = .waking ∧ s.reverse.deadline ≠ none ∧ s.chime.waits .cameraUnavailable = false ∧
      s.chime.plays .cameraUnavailable = false ∧ s.chime.proximity.active = false) ∧
    (let s := playing .idle [{ someChime 0 1 0 with source := .cameraUnavailable }]
     s.chime.waits .cameraUnavailable = true) ∧
    (let s := { attached with reverse := { attached.reverse with view := .linger, lingerTimer := some 1 } }
     s.reverse.view = .linger ∧ s.reverse.lingerTimer ≠ none) ∧
    attached.reverse.deadline = none ∧ attached.reverse.lingerTimer = none := by decide

/-- The state with timers, script and view, the camera in a state. -/
def timing (c : CaptureState) (v : View) (script : List ScriptStep) (t : List (Option Nat)) : State :=
  { attached with
    capture := { attached.capture with
      state := c
      script := script
      settleTimer := t.getD 0 none
      stepTimer := t.getD 1 none
      lossTimer := t.getD 2 none }
    guide := { attached.guide with freshness := .fresh, timer := t.getD 3 none }
    reverse := { attached.reverse with
      view := v
      raw := true
      debounce := t.getD 4 none
      deadline := t.getD 5 none
      lingerTimer := t.getD 6 none } }

theorem witness_ViewTimers_record : attached.recordLegal := reset_record_legal

theorem witness_ViewTimers_period (c : CaptureState) (v : View) (script : List ScriptStep) (a b d e f g h : Option Nat) :
    let s := timing c v script [a, b, d, e, f, g, h]
    s.pending = [] ∧ s.audio.position < 255 ∧ s.arbiter.path = none ∧ s.arbiter.outstanding = [] ∧
    [s.capture.settleTimer, s.capture.stepTimer, s.capture.lossTimer, s.guide.timer, s.reverse.debounce,
      s.reverse.deadline, s.reverse.lingerTimer] = [a, b, d, e, f, g, h] ∧ s.capture.state = c ∧
    s.capture.script = script ∧
    s.capture.scriptStep = 0 ∧ s.reverse.view = v ∧ s.guide.freshness = .fresh ∧ s.reverse.raw = true ∧
    s.reverse.delivered = false := ⟨rfl, (by decide : 0 < 255), rfl, rfl, rfl, rfl, rfl, rfl, rfl, rfl, rfl, rfl⟩

/-- The reverse view SHOWING without stores: DIRECT is wanted. -/
def directWanted (c : CaptureState) : State :=
  { cameraIn c attached with reverse := { attached.reverse with view := .showing } }

theorem witness_DirectMode :
    ((directWanted .armed).capture.state = .armed ∧ (directWanted .armed).wantedMode = .direct ∧
      (directWanted .armed).frontView.leave = false) ∧
    ((directView true false).frontView.mode = .direct ∧ (directView true false).frontView.locked = true ∧
      (directView true false).frontView.leave = false ∧ (directView true false).composers.front.frame = none) ∧
    attached.frontView.mode ≠ .direct ∧ (directView false false).frontView.locked = false ∧
    (let f := { someFrame with locked := true, direct := some ⟨0, true, 1280, 720⟩ }
     (drawing .front f attached).composers.front.frame = some f ∧ f.locked = true ∧ f.nextLine < f.height) ∧
    (∃ d, (some ⟨0, true, 1280, 720⟩ : Option DirectFrame) = some d ∧ d.closed = true) ∧
    (drawing .front someFrame attached).composers.front.frame = some someFrame ∧ someFrame.locked = false ∧
    attached.composers.front.frame = none :=
  ⟨by decide, by decide, by decide, rfl, ⟨rfl, rfl, by decide⟩, ⟨_, rfl, rfl⟩, rfl, rfl, rfl⟩

theorem witness_DirectMode_locks :
    (∀ c, (directWanted c).frontView.leave = false ∧ (directWanted c).reverse.view = .showing ∧
      (directWanted c).capture.state = c ∧ (directWanted c).capture.openKept = false ∧
      (directWanted c).capture.decimation = (directWanted c).capture.record.decimation) ∧
    (directWanted .armed).locksFront = true ∧ (directWanted .capturing).locksFront = true ∧
    (directView true true).frontView.leave = true :=
  ⟨fun _ => ⟨rfl, rfl, rfl, rfl, rfl⟩, by decide, by decide, rfl⟩

/-- R62, R159: a code that locks FRONT while a kept frame is open, without the writer or with a line left to write. -/
theorem witness_DirectMode_closes :
    let s (o : KeptFrame) (b : List BufLine) : State := { directWanted .capturing with capture :=
      { (capturing (.kept o.id) [o] b).capture with state := .capturing } }
    let o : KeptFrame := { takenWhole with toWriter := true, target := some 2 }
    ((s takenWhole []).locksFront = true ∧ (s takenWhole []).capture.openFrame = .kept takenWhole.id ∧
      (s takenWhole []).capture.frames = [takenWhole] ∧ takenWhole.faulted = false ∧ takenWhole.toWriter = false ∧
      (s takenWhole []).capture.decimation = (s takenWhole []).capture.record.decimation) ∧
    ((s o [someLine 0]).locksFront = true ∧ o.target ≠ none ∧
      ∃ l ∈ (s o [someLine 0]).capture.buffer, l.frame = o.id ∧ l.forWriter = true) := by decide +kernel

/-- R158: a locked frame without a waiting timing is not blank, and its camera layer is the direct frame. -/
theorem witness_DirectMode_stack :
    (match exec (.frameStartCode 9) (directWanted .armed) with
      | .next t => t.composers.front.frame.map fun f => (f.blank, f.layers.map (·.source))
      | _ => none) = some (false, [.direct]) := by decide +kernel

theorem witness_DirectMode_lines :
    (∀ begun, let f := { directFrame false with lineStarted := begun, blank := false }
     let s := { takingDirect f [] with
      capture := { (takingDirect f []).capture with state := .armed }
      frontView := ⟨.direct, true, false⟩
      reverse := { attached.reverse with view := .showing } }
     s.locksFront = true ∧ s.capture.state = .armed ∧ s.composers.front.frame = some f ∧ f.blank = false ∧
      f.lineStarted = begun ∧ f.nextLine < f.height) ∧
    (∃ l ∈ (directFrame false).layers, l.source = .direct ∧ ∃ r ∈ l.needs .full 4 0,
      (∀ b ∈ (takingDirect (directFrame false) []).capture.buffer, b.frame = 0 → b.row ≠ r) ∧
      ∃ b ∈ (takingDirect (directFrame false) [0]).capture.buffer, b.frame = 0 ∧ b.row = r) := by decide

/-- R159: a frame start code that locks FRONT again outputs the line begun, whose rows are not there, and counts its frame
late. -/
theorem test_relock_completes_the_line :
    (match exec (.frameStartCode 9) { takingDirect { directFrame false with lineStarted := true, blank := false } [] with
        capture := { attached.capture with state := .armed }
        frontView := ⟨.direct, true, false⟩
        reverse := { attached.reverse with view := .showing } } with
      | .next t => (t.composers.front.output.length, t.composers.front.lateFrames, t.composers.front.history.head?)
      | _ => (0, 0, none)) = (16, 1, some .late) := by decide +kernel

/-- The poller with a request to make, and a number of reads outstanding. -/
def asking (r : Request) (n : Nat) : State := { attached with
  poller := { attached.poller with order := [r] }
  arbiter := { attached.arbiter with outstanding := List.replicate n (readOf .audio (.clipSamples 0 1 0 0) 64) } }

theorem witness_Grant :
    (let r : Request := ⟨.poller, 0x10000, .read .vehicle 16⟩
     (asking r 15).arbiter.path = none ∧
      grantOrder (asking r 15) = [.audio, .front, .storeWriter, .rearL, .twin, .rearR] ++ .poller :: [] ∧
      waitingRequest (asking r 15) .poller = some r ∧ (asking r 15).arbiter.outstanding.length < 16 ∧
      (∀ x ∈ [Client.audio, .front, .storeWriter, .rearL, .twin, .rearR],
        waitingRequest (asking r 15) x = none) ∧
      16 ≤ (asking r 16).arbiter.outstanding.length ∧ waitingRequest (asking r 16) .poller = some r ∧
      r.isRead = true) ∧
    someWrite.request.isRead = false ∧
    (messaging (some (readOf .poller .vehicle 16))).arbiter.path = some (readOf .poller .vehicle 16) ∧
    (let l : BufLine := ⟨0, 0, [], true, false, 0, true⟩
     grantOrder (capturing .none [] [l, l, l, l]) = .storeWriter :: grantOrder (capturing .none [] [l, l, l])) ∧
    (waitingRequest (asking someWrite.request 16) .poller = some someWrite.request ∧
      someWrite.request.client = .poller) := by
  decide

theorem witness_Grant_clients :
    (messaging none).notice.message = true ∧ attached.notice.message = false ∧
    (let q : Request := ⟨.audio, 0x50000, .read (.soundSamples .f0 0 0) 64⟩
     let s := { attached with audio := { attached.audio with queue := [q] } }
     waitingRequest s .audio = some q ∧ q.isRead = true) ∧
    (let f := { fetchedFrame with plan := [⟨0, 0, 1, 0⟩] }
     let s := drawing .rearL f attached
     (s.composer .rearL).frame = some f ∧ f.plan = ⟨0, 0, 1, 0⟩ :: [] ∧ f.layers[0]? = some someLayer ∧
      someLayer.source.pixels = some ⟨0x40000, 64, .argb8888, 0, 0, 16, 4⟩ ∧ waitingRequest s .rearL ≠ none) ∧
    (let s := { twinned with twin := { twinned.twin with plan := [⟨0, 0, 1, 0⟩] } }
     s.twin.plan = ⟨0, 0, 1, 0⟩ :: [] ∧ waitingRequest s .twin ≠ none) ∧
    (let record := { CameraRecord.reset with stores := some ⟨0x100000, 0x300000, 0x500000⟩ }
     let s := capturing .none [{ someKept with toWriter := true, target := some 0, record := record }] [someLine 0]
     (waitingRequest s .storeWriter).map (fun r => r.work) = some (.store 0 3 [1, 2, 3, 4])) := by
  decide +kernel

/-- Each request at its own client, the audio fetcher's and the poller's waiting. -/
theorem witness_Grant_owned :
    (let s := { requesting with arbiter := attached.arbiter }
     s.requestsOwned ∧ nextGrant s = s.audio.queue.head?) ∧
    (asking ⟨.poller, 0x10000, .read .vehicle 16⟩ 15).requestsOwned :=
  ⟨⟨⟨rfl, polled_owned _ _ _, by decide, by decide, nofun⟩, by decide⟩, rfl, polled_owned _ _ _, by decide, by decide,
    nofun⟩

theorem witness_RequestFaults :
    (let s := awaiting .poller .vehicle 16 attached
     s.outstandingAt 7 = some (readOf .poller .vehicle 16) ∧ s.outstandingAt 6 = none ∧ s.port.attached = true ∧
      s.arbiter.consecutive.get .poller < 15 ∧ s.arbiter.path = none) ∧
    (let s := awaiting .poller .vehicle 16 { attached with arbiter := { attached.arbiter with
        consecutive := ⟨0, 0, 0, 0, 0, 0, 15⟩ } }
     15 ≤ s.arbiter.consecutive.get .poller) ∧
    ((messaging (some someWrite)).arbiter.path = some someWrite ∧
      (messaging (some someWrite)).outstandingAt someWrite.tag = none) ∧
    (awaiting .poller .vehicle 16 attached).awaits 7 (readOf .poller .vehicle 16) .vehicle 16 ∧
    ([] : List Byte).length ≠ 16 ∧ State.reset.port.attached = false :=
  ⟨by decide, by decide, by decide, awaiting_awaits _ _ _ _, by decide, rfl⟩

theorem witness_RequestFaults_ages :
    (∀ age, let i := { readOf .poller .vehicle 16 with age := age }
      let s := { attached with arbiter := { attached.arbiter with outstanding := [i] } }
      s.pending = [] ∧ s.audio.position < 255 ∧ s.arbiter.outstanding = [i] ∧ s.arbiter.path = none ∧
        i.request.isRead = true) ∧
    (∀ age, let i := { someWrite with age := age }
      let s := messaging (some i)
      s.arbiter.outstanding = [] ∧ s.arbiter.path = some i ∧ i.request.isRead = false) ∧ 382 < 383 ∧ 383 ≤ 383 :=
  ⟨fun _ => ⟨rfl, (by decide : 0 < 255), rfl, rfl, rfl⟩, fun _ => ⟨rfl, rfl, rfl⟩, by decide, by decide⟩

/-- R69, R172: a store write at fault: of an open frame, of a closed one, of a closed one with the next behind it, and in
STOPPING. -/
theorem witness_RequestFaults_store :
    let f (closed : Bool) : KeptFrame := { someKept with toWriter := true, target := some 0, closed := closed }
    let next : KeptFrame := { someKept with id := 1, toWriter := true }
    let held : BufLine := { someLine 4 with row := 4, forFront := true }
    let sending (s : State) : State := { s with arbiter := { s.arbiter with path := some storeWrite } }
    let ended (s : State) := ((after .sendTimeout (sending s)).capture.frames.map fun x => (x.id, x.faulted, x.target),
      (after .sendTimeout (sending s)).capture.spoiled, (after .sendTimeout (sending s)).capture.state)
    let opened := capturing (.kept 0) [f false] [someLine 4, held]
    ((sending opened).arbiter.path = some storeWrite ∧ storeWrite.request.work = .store (f false).id 3 [1, 2, 3, 4] ∧
      (sending opened).outstandingAt storeWrite.tag = none ∧
      (sending opened).arbiter.consecutive.get storeWrite.request.client < 15) ∧
    (∀ x ∈ [next], x.id ≠ (f true).id ∧ x.closed = false) ∧
    (∀ id, (stopping (f true) []).capture.openFrame = .kept id → id = 0) ∧
    (∀ id, { stopping (f true) [] with capture := { (stopping (f true) []).capture with openFrame := .none } }.capture.openFrame ≠
      .kept id) ∧
    ended opened = ([(0, true, some 0)], 0, .capturing) ∧
    ((after (.linkRequestFault 7 .notSent) (sending opened)).capture.buffer.map fun l => (l.row, l.forWriter)) =
      [(4, false)] ∧
    ended (capturing .none [f true] [someLine 4]) = ([], 1, .capturing) ∧
    ended (capturing (.kept 1) [f true, next] [someLine 4]) = ([(1, false, some 0)], 1, .capturing) := by
  refine ⟨by decide, by decide, ?_, fun _ => nofun, by decide +kernel, by decide +kernel, by decide +kernel,
    by decide +kernel⟩
  intro id h; exact (OpenFrame.kept.inj h).symm

end Sys2Proof.Tests
end

section
/-! The start of an attach (9.3, R178). -/

namespace Sys2Proof.Machine

/-- What ATTACH answers: its effect, with the status writes of it. -/
theorem exec_attach (s : State) : exec .attach s = commit s (startAttach s) := rfl

/-- A command from DETACHED makes no status write (R170). -/
theorem commit_of_detached {s : State} (h : s.port.attached = false) (u : State) : commit s u = .next u :=
  congrArg Host.Outcome.next (publishStatus_detached s u (.inl h))

theorem baseOpen_iff (p : Port) : p.baseOpen = true ↔ p.attached = false ∧ p.attachResult ≠ .pending := by
  rw [Port.baseOpen, Bool.and_eq_true, Bool.not_eq_true', bne_iff_ne]

/-- ATTACHED or PENDING, ATTACH has no effect. -/
theorem startAttach_of_not_baseOpen {s : State} (h : ¬s.port.baseOpen = true) : startAttach s = s := by
  simp [startAttach, h]

/-- On a misaligned base the attach fails (R178, R194). -/
theorem startAttach_of_misaligned {s : State} (ho : s.port.baseOpen = true) (hm : s.port.base.toNat % 65536 ≠ 0) :
    startAttach s = failAttach .misaligned s := by
  simp [startAttach, ho, hm]

/-- On an aligned base the header is asked for and the result is PENDING. -/
theorem startAttach_of_aligned {s : State} (ho : s.port.baseOpen = true) (ha : s.port.base.toNat % 65536 = 0) :
    startAttach s =
      makeRead .header s.port.base 256 (s.onPort fun p => { p with attachResult := .pending }) := by
  simp [startAttach, ho, ha]

/-- Settles O17: from DETACHED no status write is made, so the effect is the next state; with the base closed there is
no effect. -/
theorem attachStarts : Obligations.AttachStarts := by
  unfold Obligations.AttachStarts
  refine ⟨?misaligned, ?start, ?unchanged⟩
  case misaligned =>
    intro s hd hr hm
    rw [exec_attach, commit_of_detached hd, startAttach_of_misaligned ((baseOpen_iff _).2 ⟨hd, hr⟩) hm]
    rfl
  case start =>
    intro s hd hr ha
    rw [exec_attach, commit_of_detached hd, startAttach_of_aligned ((baseOpen_iff _).2 ⟨hd, hr⟩) ha]
    rfl
  case unchanged =>
    intro s h
    have closed : ¬s.port.baseOpen = true := by
      rw [baseOpen_iff]
      rintro ⟨hd, hr⟩
      rcases h with h | h
      · exact Bool.false_ne_true (hd.symm.trans h)
      · exact hr h
    have next := commit_next (exec_attach s)
    rw [startAttach_of_not_baseOpen closed] at next
    exact next

end Sys2Proof.Machine
end

section
/-! The notice unit's flags, enables and interrupt message (10.1, 10.2, R190, R191). -/

namespace Sys2Proof.Machine

theorem Flag.bit_lt (f : Flag) : f.bit < 8 := by cases f <;> decide

/-- A vector holds a one at some place exactly when it is not zero. -/
theorem bitVec_ne_zero_iff {w : Nat} (x : BitVec w) : x ≠ 0 ↔ ∃ k, k < w ∧ x.getLsbD k = true := by
  rw [Ne, BitVec.eq_of_getLsbD_eq_iff]
  simp

/-! ## A setting event, flag by flag -/

/-- The one flag named by a setting event. -/
theorem one_shiftLeft_getLsbD (n k : Nat) (hk : k < 8) : (1#8 <<< n).getLsbD k = (k == n) := by
  rw [← BitVec.twoPow_eq, BitVec.getLsbD_twoPow]
  by_cases h : n = k
  · simp [h, hk]
  · simp [h, Ne.symm h]

theorem setFlag_cause_getLsbD (f : Flag) (s : State) {k : Nat} (hk : k < 8) :
    (setFlag f s).notice.cause.getLsbD k = (s.notice.cause.getLsbD k || k == f.bit) := by
  rw [← one_shiftLeft_getLsbD f.bit k hk, ← BitVec.getLsbD_or]
  rfl

/-- A setting event asks for a message when its flag was clear and its enable is set. -/
theorem setFlag_message_iff (f : Flag) (s : State) : (setFlag f s).notice.message = true ↔
    (s.notice.message = true ∨ (s.notice.cause.getLsbD f.bit = false ∧ s.notice.mask.getLsbD f.bit = true)) := by
  have message : (setFlag f s).notice.message =
      (s.notice.message || (!s.notice.cause.getLsbD f.bit && s.notice.mask.getLsbD f.bit)) := rfl
  rw [message, Bool.or_eq_true, Bool.and_eq_true, Bool.not_eq_true']

/-! ## Writes to CAUSE and MASK -/

theorem exec_causeWrite (v : Word) (s : State) :
    exec (.causeWrite v) s = commit s (s.onNotice (clearFlags v)) := rfl

theorem exec_maskWrite (v : Word) (s : State) : exec (.maskWrite v) s = commit s (s.onNotice (writeMask v)) := rfl

/-- Of a written word the notice unit takes the eight bits that name flags. -/
theorem flagBits_getLsbD (v : Word) {k : Nat} (hk : k < 8) : (v.extractLsb' 0 8).getLsbD k = v.getLsbD k := by
  simp [hk]

theorem clearFlags_cause_getLsbD (v : Word) (n : Notice) {k : Nat} (hk : k < 8) :
    (clearFlags v n).cause.getLsbD k = (n.cause.getLsbD k && !v.getLsbD k) := by
  rw [clearFlags, BitVec.getLsbD_and, BitVec.getLsbD_not, flagBits_getLsbD v hk, decide_eq_true hk, Bool.true_and]

theorem writeMask_mask_getLsbD (v : Word) (n : Notice) {k : Nat} (hk : k < 8) :
    (writeMask v n).mask.getLsbD k = v.getLsbD k := flagBits_getLsbD v hk

/-- The enables that a write takes from clear to set while their flags are set, as `writeMask` finds them, place by
place. -/
theorem enabledFlags_getLsbD (v : Word) (n : Notice) {k : Nat} (hk : k < 8) :
    (v.extractLsb' 0 8 &&& ~~~n.mask &&& n.cause).getLsbD k = true ↔
      v.getLsbD k = true ∧ n.mask.getLsbD k = false ∧ n.cause.getLsbD k = true := by
  rw [BitVec.getLsbD_and, BitVec.getLsbD_and, BitVec.getLsbD_not, flagBits_getLsbD v hk, decide_eq_true hk]
  simp [and_assoc]

/-- A write to MASK asks for a message when it enables a flag that is set. -/
theorem writeMask_message_iff (v : Word) (n : Notice) : (writeMask v n).message = true ↔
    (n.message = true ∨
      ∃ k, k < 8 ∧ v.getLsbD k = true ∧ n.mask.getLsbD k = false ∧ n.cause.getLsbD k = true) := by
  rw [writeMask, Bool.or_eq_true, bne_iff_ne, bitVec_ne_zero_iff]
  refine or_congr_right (exists_congr fun k => and_congr_right fun hk => ?_)
  exact enabledFlags_getLsbD v n hk

/-! ## Reads of CAUSE and MASK -/

/-- A register of flags reads as zero in the places that name none. -/
theorem flagRegister_getLsbD (b : Byte) (k : Nat) :
    (b.setWidth 32).getLsbD k = (decide (k < 8) && b.getLsbD k) := by
  rw [BitVec.getLsbD_setWidth]
  by_cases hk : k < 8
  · simp [hk, Nat.lt_trans hk (by decide : 8 < 32)]
  · simp [hk, BitVec.getLsbD_of_ge b k (Nat.not_lt.1 hk)]

theorem readWindow_cause (s : State) : readWindow 16 s = s.notice.cause.setWidth 32 := rfl

theorem readWindow_mask (s : State) : readWindow 20 s = s.notice.mask.setWidth 32 := rfl

/-! ## The statements -/

/-- Settles O13: each clause is read off flag by flag, and the two orders of an event and a write follow from what each
does to the one flag. -/
theorem causeFlags : Obligations.CauseFlags := by
  unfold Obligations.CauseFlags
  refine ⟨fun f s k hk => setFlag_cause_getLsbD f s hk, ?write, ?read, ?orders⟩
  case write =>
    intro v s
    obtain ⟨t, answers, same⟩ := commit_next (exec_causeWrite v s)
    exact ⟨t, (clearFlags v s.notice).cause, answers, same, fun k hk => clearFlags_cause_getLsbD v s.notice hk⟩
  case read =>
    intro s k
    rw [readWindow_cause, flagRegister_getLsbD]
  case orders =>
    intro f v s hv
    refine ⟨?_, ?_, rfl⟩
    · rw [setFlag_cause_getLsbD f _ f.bit_lt, beq_self_eq_true, Bool.or_true]
    · rw [clearFlags_cause_getLsbD v _ f.bit_lt, hv, Bool.not_true, Bool.and_false]

/-- Settles O14: a setting event and a write to MASK ask for a message under their conditions, and clearing flags leaves
the mark. -/
theorem messageRequests : Obligations.MessageRequests := by
  unfold Obligations.MessageRequests
  refine ⟨setFlag_message_iff, ?write, fun _ _ => rfl, ?read⟩
  case write =>
    intro v s
    obtain ⟨t, answers, same⟩ := commit_next (exec_maskWrite v s)
    exact ⟨t, (writeMask v s.notice).mask, (writeMask v s.notice).message, answers, same,
      fun k hk => writeMask_mask_getLsbD v s.notice hk, writeMask_message_iff v s.notice⟩
  case read =>
    intro s k
    rw [readWindow_mask, flagRegister_getLsbD]

end Sys2Proof.Machine
end
